-- ==== Sys2Proof/Word.lean ====
section
/-! DEFINITION. The byte of both links and of non-volatile memory, and the sixteen-bit register of the CRC. -/

namespace Sys2Proof

/-- One byte on a link (12_frame_and_record_layouts, R197). -/
abbrev Byte := BitVec 8

/-- The sixteen-bit register of the CRC (R197). -/
abbrev Word16 := BitVec 16

end Sys2Proof
end

