-- ==== Sys2Proof/Syntax.lean ====
section
/-! DEFINITION. The commands: one constructor of `Instr` for each row of spec/opcode_table.json, with what it carries. -/

namespace Sys2Proof

/-- The five machines, in index order 0 to 4 (04_compressor_trains_and_expansion_strings, opening). -/
inductive MachineId where
  | c1 | c2 | c3 | e1 | e2
  deriving DecidableEq, Repr

/-- The eight heat-store vessels V0 to V7 (00_scope, "The plant served"). -/
inductive VesselId where
  | v0 | v1 | v2 | v3 | v4 | v5 | v6 | v7
  deriving DecidableEq, Repr

/-- The electrical level of an input line (R162). -/
inductive Level where
  | low | high
  deriving DecidableEq, Repr

/-- One of the thirteen destinations of orders (09 section 9.4). -/
inductive Dest where
  | machine (m : MachineId)
  | vessel (v : VesselId)
  deriving DecidableEq, Repr

/-- An offered interval record (12.3): status code, power, bands, and the trade reference where its
present bit is set (R199). The committed flag of an offered record is not read. -/
structure OfferedRecord where
  status : Nat
  power : Int
  up : Nat
  down : Nat
  reference : Option Nat
  deriving DecidableEq, Repr

/-- The commands. A request carries the fields of its payload (R199, R200); an event names the machine,
vessel, source, line or destination it concerns and carries the bytes or the level it brings. -/
inductive Instr where
  -- requests of the constants store
  | identify
  | readStatus
  | setMode (mode : Nat)
  | loadConstants (sect : Nat) (values : List Int)
  | readConstants (sect : Nat)
  | restart
  -- requests of the time base
  | setTime (day second ms : Nat)
  | readTime
  -- requests of the schedule
  | writeIntervals (day first count : Nat) (records : List OfferedRecord)
  | readIntervals (day index : Nat)
  | beginDayLoad (day : Nat)
  | stageIntervals (first count : Nat) (records : List OfferedRecord)
  | commitDayLoad
  | cancelDayLoad
  | setWindow (index kind mask first last : Nat) (value : Int)
  | clearWindow (index : Nat)
  | readWindows
  -- requests of dispatch and the inventory
  | setManualTarget (power : Int)
  | setRampGear (gear : Nat)
  | readSettlements
  | readDispatch
  | readInventory
  -- requests of the allocator
  | setHold (count : Nat)
  | setFreeze (value : Nat)
  | setBypass (value : Nat)
  | isolateVessel (vessel : Nat)
  | restoreVessel (vessel : Nat)
  | readVessels
  -- requests of the sequencer
  | readMachines
  | readCounters
  | releaseLockout (machine : Nat)
  -- requests of protection
  | ackTrip
  | clearShutdown
  | readFaults
  | clearFaults (selector sequence : Nat)
  | setGroupEnable (group value : Nat)
  -- requests of the station link, the line unit and the plant link
  | fetchNotices (count : Nat)
  | setAttentionMask (mask : Nat)
  | readLines
  | readSources (selector : Nat)
  -- events of the station link
  | stationFrameReceived (kind tag : Byte) (payload : List Byte)
  | stationFrameGapTimeout
  | characterFramingError
  | linkResynchronisation
  | replySent
  | busyReplySent
  -- events of the plant link
  | plantFrameReceived (frame : List Byte)
  | plantFrameGapTimeout
  | plantLinkBreak
  | recordTaken
  | sourceStale (source : Fin 24)
  | sourceLost (source : Fin 24)
  | orderFrameSent
  | orderRepeatDue (dest : Dest)
  | orderUnconfirmed (dest : Dest)
  -- events of the clock and of the timers
  | intervalBoundary
  | counterSaveComplete
  | endOfRange
  | stagingDiscardTimeout
  | dispatchCycle
  | dwellExpired
  | startTimerExpired (machine : MachineId)
  | lingerExpired (machine : MachineId)
  | counterTick
  | switchTimeout (machine : MachineId)
  -- events of the lines, the store and the resets
  | inputQualifiedChange (line : Fin 16) (level : Level)
  | constantsStoreComplete
  | warmRestart
  | powerOnReset
  | stationByteReceived (byte : Byte)
  | inputSample (line : Fin 16) (level : Level)
  deriving DecidableEq, Repr

end Sys2Proof
end

