-- ==== Sys2Proof/Decode.lean ====
section
/-! DEFINITION. The decoder over the bits of spec/opcode_table.json. The table gives bits to none of its rows, so no word
spells a command (log entry 27). The request payloads, which do have a layout, are read in Sys2Proof/Machine/Requests.lean. -/

namespace Sys2Proof

/-- No row of the table has bits, so every word is refused. -/
def decodeTableWord (_nbits _w : Nat) : Option Instr := none

end Sys2Proof
end

