-- ==== Sys2Proof/Config.lean ====
section
/-! DEFINITION. What the part fixes, and the free values: constants without a body, so that no proof can see what they are. -/

namespace Sys2Proof.Config

/-- R196: "the silicon revision". The manual gives no number. Free value, log entry 13. -/
opaque siliconRevision : Nat

/-- R192: "A section with a bad CRC gives no values." The value that a reader of constant `index` of
section `code` meets meanwhile, wherever no rule says what the reader does instead. Free value, log entry 7. -/
opaque absentConstant (code index : Nat) : Int

/-- The bytes that a reply carries for a part of its content that chapter 12 lays out nowhere ("The content of each reply is
listed by the rule that specifies its request", 00_scope). Free value, log entry 12. -/
opaque unlaidBytes {α : Type} (content : α) : List Byte

/-- The four bytes that a settlement record carries for an energy outside their signed range: R131 lets metered net export and
deviation pass it, and R199 with 12.3 says nothing of it. Free value, DESIGN CHOICE, log entry 45. -/
opaque wideEnergy (kWh : Int) : BitVec 32

/-- R196: the vendor code. -/
def vendorCode : Nat := 0x4447
/-- R196: the part code. -/
def partCode : Nat := 0x0C04
/-- R196, R185: the maximum payload of a frame. -/
def maxPayload : Nat := 480
/-- R186: the request queue holds 4 frames. -/
def requestQueueSize : Nat := 4
/-- R189: the notice queue holds 32 notices. -/
def noticeQueueSize : Nat := 32
/-- R139: the fault table holds 16 records. -/
def faultTableSize : Nat := 16
/-- R132: the settlement log holds 16 records. -/
def settlementLogSize : Nat := 16
/-- R175: the receive queue holds 16 frames. -/
def receiveQueueSize : Nat := 16
/-- R25: m saturates at 2^48 - 1. -/
def massLimit : Nat := 281474976710655
/-- R13, R16: the staging discard timer, in ms. -/
def stagingTime : Nat := 60000
/-- R154: the last day plant time can hold. -/
def lastDay : Nat := 65534

end Sys2Proof.Config
end

