-- ==== Sys2Proof/Machine/State.lean ====
section
/-! DEFINITION. The state of the CK-4: one structure per block, each field with the rule that names it, and the state after
power-on of a blank part (`State.reset`). Plain data throughout. -/

namespace Sys2Proof.Machine

/-! ### Indexed families -/

/-- One value for each machine C1, C2, C3, E1, E2. -/
structure PerMachine (α : Type) where
  c1 : α
  c2 : α
  c3 : α
  e1 : α
  e2 : α
  deriving DecidableEq, Repr

/-- The same value for every machine. -/
def PerMachine.all {α : Type} (x : α) : PerMachine α := ⟨x, x, x, x, x⟩

/-- The value of machine `m`. -/
def PerMachine.get {α : Type} (f : PerMachine α) (m : MachineId) : α :=
  match m with
  | .c1 => f.c1
  | .c2 => f.c2
  | .c3 => f.c3
  | .e1 => f.e1
  | .e2 => f.e2

/-- Machine `m` takes the value `x`. -/
def PerMachine.set {α : Type} (f : PerMachine α) (m : MachineId) (x : α) : PerMachine α :=
  match m with
  | .c1 => { f with c1 := x }
  | .c2 => { f with c2 := x }
  | .c3 => { f with c3 := x }
  | .e1 => { f with e1 := x }
  | .e2 => { f with e2 := x }

/-- One value for each vessel V0 to V7. -/
structure PerVessel (α : Type) where
  v0 : α
  v1 : α
  v2 : α
  v3 : α
  v4 : α
  v5 : α
  v6 : α
  v7 : α
  deriving DecidableEq, Repr

/-- The same value for every vessel. -/
def PerVessel.all {α : Type} (x : α) : PerVessel α := ⟨x, x, x, x, x, x, x, x⟩

/-- The value of vessel `v`. -/
def PerVessel.get {α : Type} (f : PerVessel α) (v : VesselId) : α :=
  match v with
  | .v0 => f.v0
  | .v1 => f.v1
  | .v2 => f.v2
  | .v3 => f.v3
  | .v4 => f.v4
  | .v5 => f.v5
  | .v6 => f.v6
  | .v7 => f.v7

/-- Vessel `v` takes the value `x`. -/
def PerVessel.set {α : Type} (f : PerVessel α) (v : VesselId) (x : α) : PerVessel α :=
  match v with
  | .v0 => { f with v0 := x }
  | .v1 => { f with v1 := x }
  | .v2 => { f with v2 := x }
  | .v3 => { f with v3 := x }
  | .v4 => { f with v4 := x }
  | .v5 => { f with v5 := x }
  | .v6 => { f with v6 := x }
  | .v7 => { f with v7 := x }

/-! ### Names shared by the blocks -/

/-- Plant time of a record or notice (R154, R189). -/
structure PlantTime where
  day : Nat
  second : Nat
  ms : Nat
  deriving DecidableEq, Repr

/-- The plant modes (00_scope, "Plant modes"; coded by R200). -/
inductive Mode where
  | unconfigured | standby | auto | manual | shutdown
  deriving DecidableEq, Repr

/-- The direction of a machine or setpoint (00_scope, "Signs and directions"). -/
inductive Dir where
  | charge | discharge
  deriving DecidableEq, Repr

/-- Freshness of a measurement source (R173, R177). -/
inductive SourceState where
  | fresh | stale | lost
  deriving DecidableEq, Repr

/-! ### Schedule -/

/-- Status of an interval record (R2). -/
inductive IntervalStatus where
  | empty | indicative | firm | locked | dropped | active | settled
  deriving DecidableEq, Repr

/-- An interval record (R2). -/
structure IntervalRecord where
  power : Int
  up : Nat
  down : Nat
  committed : Bool
  status : IntervalStatus
  reference : Option Nat
  deriving DecidableEq, Repr

/-- R2: an EMPTY record. -/
def IntervalRecord.blank : IntervalRecord := ⟨0, 0, 0, false, .empty, none⟩

/-- Kind of an override window (R18). -/
inductive WindowKind where
  | block | setpoint | capDischarge | capCharge
  deriving DecidableEq, Repr

/-- An override window (R18). -/
structure Window where
  inUse : Bool
  kind : WindowKind
  first : Nat
  last : Nat
  mask : Nat
  value : Int
  deriving DecidableEq, Repr

/-- R18: a free window reads with every field 0. -/
def Window.free : Window := ⟨false, .block, 0, 0, 0, 0⟩

/-- The open staging page (section 1.4): its day, its 96 records, and the ms left on the discard timer. -/
structure Staging where
  day : Nat
  records : List IntervalRecord
  timer : Nat
  deriving DecidableEq, Repr

/-- The schedule (R2, R17, R18). `day` is the day number of CURRENT; NEXT carries the day after it (R3). -/
structure Schedule where
  day : Option Nat
  currentPage : List IntervalRecord
  nextPage : List IntervalRecord
  windows : List Window
  staging : Option Staging
  deriving DecidableEq, Repr

/-- A page of 96 EMPTY records (R2). -/
def emptyPage : List IntervalRecord := List.replicate 96 IntervalRecord.blank

/-- R2, R17, R18: the schedule after a power-on reset. -/
def Schedule.powerOn : Schedule :=
  { day := none, currentPage := emptyPage, nextPage := emptyPage, windows := List.replicate 16 Window.free, staging := none }

/-! ### Inventory -/

/-- Inventory state (R25). -/
inductive InventoryState where
  | unseeded | tracking | drifting | reseeded | frozen
  deriving DecidableEq, Repr

/-- Violation kind of a projection result (R49, R51). -/
inductive Violation where
  | none | notSeeded | heatRoom | massLow | massHigh | heatLow | rate | heldHeat
  deriving DecidableEq, Repr

/-- Result record of a projection (R51). -/
structure ProjectionResult where
  pass : Bool
  first : Nat
  kind : Violation
  minMass : Nat
  maxMass : Nat
  horizonMass : Nat
  deriving DecidableEq, Repr

/-- The inventory (R25). -/
structure Inventory where
  m : Nat
  state : InventoryState
  resume : InventoryState
  drift : Nat
  baseline : PerMachine (Option Nat)
  temperature : Option Int
  lastPressure : Option Nat
  residual : Int
  pEst : Nat
  mMin : Nat
  mMax : Nat
  wDis : Nat
  wChg : Nat
  dischargeMargin : Bool
  chargeMargin : Bool
  mStep : Nat
  pRateDis : Nat
  pRateChg : Nat
  stored : ProjectionResult
  deriving DecidableEq, Repr

/-- R25: the inventory after a power-on reset. -/
def Inventory.powerOn : Inventory :=
  { m := 0, state := .unseeded, resume := .reseeded, drift := 0, baseline := .all none, temperature := none,
    lastPressure := none, residual := 0, pEst := 0, mMin := 0, mMax := 0, wDis := 0, wChg := 0,
    dischargeMargin := true, chargeMargin := true, mStep := 0, pRateDis := 0, pRateChg := 0,
    stored := { pass := false, first := 0, kind := .notSeeded, minMass := 0, maxMass := 0, horizonMass := 0 } }

/-! ### Allocator -/

/-- Content class of a vessel (R60). -/
inductive ContentClass where
  | empty | partly | full
  deriving DecidableEq, Repr

/-- Use state of a vessel (R61). -/
inductive UseState where
  | free
  | switchingIn (m : MachineId)
  | charging (m : MachineId)
  | discharging (m : MachineId)
  | switchingOut (m : MachineId)
  | isolated
  deriving DecidableEq, Repr

/-- Condition of a vessel (R58). -/
inductive Condition where
  | normal | degraded
  deriving DecidableEq, Repr

/-- A route of a vessel's valves (03 section 3.6). -/
inductive Route where
  | none
  | charge (m : MachineId)
  | discharge (m : MachineId)
  deriving DecidableEq, Repr

/-- A vessel record (R54). -/
structure VesselRecord where
  reported : Bool
  source : SourceState
  layers : List Int
  valid : List Bool
  invalidCount : Nat
  content : ContentClass
  use : UseState
  condition : Condition
  stored : Nat
  usable : Nat
  room : Nat
  held : Bool
  route : Route
  deriving DecidableEq, Repr

/-- R54: a vessel record after a power-on reset. -/
def VesselRecord.powerOn : VesselRecord :=
  { reported := false, source := .lost, layers := List.replicate 12 0, valid := List.replicate 12 false,
    invalidCount := 12, content := .empty, use := .free, condition := .normal, stored := 0, usable := 0, room := 0,
    held := false, route := .none }

/-- The seven node bits of the tree; `true` is 1 (R55, R67). -/
structure Tree where
  b0 : Bool
  b1 : Bool
  b2 : Bool
  b3 : Bool
  b4 : Bool
  b5 : Bool
  b6 : Bool
  deriving DecidableEq, Repr

/-- Why a switchover target was sought (R55). -/
inductive SwitchCause where
  | load | full | empty | degraded | release | bypassExit
  deriving DecidableEq, Repr

/-- The binding record of a machine (R55); the timer is in ms. -/
structure Binding where
  bound : Option VesselId
  target : Option VesselId
  bypass : Bool
  cause : Option SwitchCause
  timer : Option Nat
  deriving DecidableEq, Repr

/-- R55: a binding record after a power-on reset. -/
def Binding.powerOn : Binding := ⟨none, none, false, none, none⟩

/-- The allocator (R54, R55). -/
structure Allocator where
  vessels : PerVessel VesselRecord
  hold : Nat
  freeze : Bool
  bypassRequested : Bool
  bypassPermitted : Bool
  tree : Tree
  reserve : Int
  bindings : PerMachine Binding
  deriving DecidableEq, Repr

/-- R54, R55: the allocator after a power-on reset. -/
def Allocator.powerOn : Allocator :=
  { vessels := .all .powerOn, hold := 0, freeze := false, bypassRequested := false, bypassPermitted := false,
    tree := ⟨false, false, false, false, false, false, false⟩, reserve := 0, bindings := .all .powerOn }

/-! ### Sequencer -/

/-- Tracked states of a machine, in code order 0 to 8 (section 4.2). -/
inductive MachineState where
  | stopped | starting | idle | loading | loaded | unloading | stopping | tripped | lockedOut
  deriving DecidableEq, Repr

/-- Report values of a machine controller, in code order 0 to 6 (R101). -/
inductive Report where
  | stopped | starting | runUnloaded | loaded | unloading | stopping | tripped
  deriving DecidableEq, Repr

/-- Demand of dispatch on a machine (R81). -/
inductive Demand where
  | none | serve
  deriving DecidableEq, Repr

/-- Kinds of machine order, in code order 0 to 4 (R83, 12.2). -/
inductive OrderKind where
  | start | load | unload | stop | trip
  deriving DecidableEq, Repr

/-- The order phase (R81, R83): the order last placed (`none`: no order), its LOAD setpoint, and whether it is confirmed. -/
structure OrderPhase where
  kind : Option OrderKind
  setpoint : Nat
  confirmed : Bool
  deriving DecidableEq, Repr

/-- Causes of a transition, in code order 0 to 21 (R106). -/
inductive Cause where
  | none | startDemand | runReported | loadDemand | loadedReported | noVessel | reheatLow | shed | margin | heat | bypassLost
  | faultUnload | mode | restart | linger | stoppedReported | trip | tripAck | lockout | lockoutReleased | unexpectedReport | adopted
  deriving DecidableEq, Repr

/-- The last-transition record (R106). -/
structure LastTransition where
  source : MachineState
  target : MachineState
  cause : Cause
  time : Option PlantTime
  deriving DecidableEq, Repr

/-- The five counters of a machine (section 4.9). -/
structure Counters where
  runSeconds : Nat
  loadedSeconds : Nat
  loadMs : Nat
  starts : Nat
  trips : Nat
  deriving DecidableEq, Repr

/-- R109: counters that start at 0. -/
def Counters.zero : Counters := ⟨0, 0, 0, 0, 0⟩

/-- A machine record (R81); timers are in ms. -/
structure MachineRecord where
  state : MachineState
  adopted : Bool
  report : Option Report
  power : Int
  inlet : Option Int
  source : SourceState
  demand : Demand
  phase : OrderPhase
  setpoint : Nat
  loadPending : Bool
  startTimer : Option Nat
  startFailed : Bool
  lingerTimer : Option Nat
  controllerTripHanded : Bool
  lockoutPending : Bool
  stoppedSinceTrip : Bool
  acknowledged : Bool
  correcting : Bool
  last : LastTransition
  counters : Counters
  deriving DecidableEq, Repr

/-- R81: a machine record after a power-on reset, with the counters restored. -/
def MachineRecord.powerOn (counters : Counters) : MachineRecord :=
  { state := .stopped, adopted := false, report := none, power := 0, inlet := none, source := .lost, demand := .none,
    phase := ⟨none, 0, false⟩, setpoint := 0, loadPending := false, startTimer := none, startFailed := false,
    lingerTimer := none, controllerTripHanded := false, lockoutPending := false, stoppedSinceTrip := false,
    acknowledged := false, correcting := false, last := ⟨.stopped, .stopped, .none, none⟩, counters := counters }

/-- A completed save as ReadCounters names it: its number and its plant time (R110). -/
structure SaveStamp where
  number : Nat
  time : Option PlantTime
  deriving DecidableEq, Repr

/-- A counter save in flight (R109): the slot it is written into (`false` the first, `true` the second), its number, the
plant time of the save, and the counters as they stood when it was taken. -/
structure SaveInFlight where
  slot : Bool
  number : Nat
  time : Option PlantTime
  counters : PerMachine Counters
  deriving DecidableEq, Repr

/-- The sequencer (R81, R107, R109). `counterTimer` is the ms to the next firing of the counter timer. -/
structure Sequencer where
  machines : PerMachine MachineRecord
  counterTimer : Nat
  restored : Bool
  lastSave : Option SaveStamp
  save : Option SaveInFlight
  saveAsked : Bool
  deriving DecidableEq, Repr

/-- R81, R109: the sequencer after a power-on reset, given the counters restored, whether they were, and their save. -/
def Sequencer.powerOn (counters : PerMachine Counters) (restored : Bool) (lastSave : Option SaveStamp) : Sequencer :=
  { machines := ⟨.powerOn counters.c1, .powerOn counters.c2, .powerOn counters.c3, .powerOn counters.e1, .powerOn counters.e2⟩,
    counterTimer := 1000, restored := restored, lastSave := lastSave, save := none, saveAsked := false }

/-! ### Dispatch -/

/-- The binding clamp (R112, R122). -/
inductive Clamp where
  | none | mode | availability | rate | margin | heat
  deriving DecidableEq, Repr

/-- A running dwell timer: ms remaining and the direction it blocks (R117). -/
structure Dwell where
  remaining : Nat
  blocked : Dir
  deriving DecidableEq, Repr

/-- A settlement record (R130). -/
structure Settlement where
  number : Nat
  day : Nat
  interval : Nat
  committed : Bool
  power : Int
  scheduled : Int
  reserve : Int
  shortfall : Int
  metered : Option Int
  deviation : Option Int
  cutShort : Bool
  deriving DecidableEq, Repr

/-- The dispatch unit (R112). `cycleTimer` is the ms to the next firing of the cycle timer (R113); `held` is the MACHINES
values that dispatch goes on using from a completed store of that section until its next cycle (R112; log entry 39). -/
structure DispatchUnit where
  t0 : Int
  t0Up : Nat
  t0Down : Nat
  s : Int
  gear : Nat
  manualTarget : Int
  pRes : Int
  frequency : Option Nat
  frequencySinceFresh : Bool
  meter : SourceState
  exportKwh : Option Nat
  importKwh : Option Nat
  f : Int
  clamp : Clamp
  dwell : Option Dwell
  permitDischarge : Bool
  permitCharge : Bool
  reserveSum : Int
  shortfallSum : Int
  cycles : Nat
  meterLost : Bool
  startExport : Option Nat
  startImport : Option Nat
  log : List Settlement
  number : Nat
  cycleTimer : Nat
  held : Option (List Int)
  deriving DecidableEq, Repr

/-- R112: dispatch after a power-on reset. -/
def DispatchUnit.powerOn : DispatchUnit :=
  { t0 := 0, t0Up := 0, t0Down := 0, s := 0, gear := 0, manualTarget := 0, pRes := 0, frequency := none,
    frequencySinceFresh := false, meter := .lost, exportKwh := none, importKwh := none, f := 0, clamp := .none,
    dwell := none, permitDischarge := false, permitCharge := false, reserveSum := 0, shortfallSum := 0, cycles := 0,
    meterLost := true, startExport := none, startImport := none, log := [], number := 0, cycleTimer := 1000, held := none }

/-! ### Protection -/

/-- Protection groups, in code order 0 to 5 (R136, R140). -/
inductive Group where
  | machC | machE | vessel | cavern | port | lines
  deriving DecidableEq, Repr

/-- Severities, in code order 0 to 4 (R136, R140). -/
inductive Severity where
  | warn | unload | machine | direction | plant
  deriving DecidableEq, Repr

/-- Reason codes (section 6.6). -/
inductive Reason where
  | startFail | controllerTripped | unexpectedState | sensor | switchTimeout | totaliser | tempRange | discrepancy
  | lost | orderUnconfirmed | estop | gridLoss | tripLine | breakerOpened | cavernHigh | cavernLow
  deriving DecidableEq, Repr

/-- A fault as its block hands it (R136). -/
structure FaultReport where
  group : Group
  reason : Reason
  subject : Nat
  info : Int
  severity : Severity
  restartValid : Bool
  deriving DecidableEq, Repr

/-- A record of the fault table (R139). -/
structure FaultRecord where
  sequence : Nat
  time : Option PlantTime
  fault : FaultReport
  deriving DecidableEq, Repr

/-- The six group enables (R135). -/
structure GroupEnables where
  machC : Bool
  machE : Bool
  vessel : Bool
  cavern : Bool
  port : Bool
  lines : Bool
  deriving DecidableEq, Repr

/-- Protection (R135). -/
structure Protection where
  enables : GroupEnables
  tripInProgress : Bool
  lastTripOrigin : Option Nat
  shutdown : Bool
  nextSequence : Nat
  table : List FaultRecord
  overflow : Bool
  deriving DecidableEq, Repr

/-- R135: protection after a power-on reset. -/
def Protection.powerOn : Protection :=
  { enables := ⟨true, true, true, true, true, true⟩, tripInProgress := false, lastTripOrigin := none, shutdown := false,
    nextSequence := 0, table := [], overflow := false }

/-! ### Time base -/

/-- Kind of the last SetTime accepted (R154, R158, R159). -/
inductive StepKind where
  | none | firstSet | forward | forwardClearing | backward
  deriving DecidableEq, Repr

/-- The last step (R154). -/
structure LastStep where
  kind : StepKind
  size : Int
  time : Option PlantTime
  deriving DecidableEq, Repr

/-- The time base (R154). -/
structure TimeBase where
  elapsed : Nat
  valid : Bool
  day : Nat
  second : Nat
  ms : Nat
  endOfRange : Bool
  nextCut : Bool
  lastStep : LastStep
  deriving DecidableEq, Repr

/-- R154: the time base after a power-on reset. -/
def TimeBase.powerOn : TimeBase :=
  { elapsed := 0, valid := false, day := 0, second := 0, ms := 0, endOfRange := false, nextCut := false,
    lastStep := ⟨.none, 0, none⟩ }

/-! ### Line unit -/

/-- Functions of an input line (R165). -/
inductive InputFunction where
  | none
  | estop
  | gridLoss
  | trip (m : MachineId)
  | breaker (m : MachineId)
  | cavernHigh
  | cavernLow
  | coolerReady
  deriving DecidableEq, Repr

/-- Functions of an output line, in code order 0 to 7 (R171). -/
inductive OutputFunction where
  | none | plantTrip | compTrip | expTrip | attention | shutdown | bypassCooler | reserveActive
  deriving DecidableEq, Repr

/-- Polarity of a line (R162, R165). -/
inductive Polarity where
  | activeHigh | activeLow
  deriving DecidableEq, Repr

/-- An input line (R162). `qualified` is `none` while UNKNOWN. `pin` is the electrical level at the line as it was last
delivered, `none` until one has been; `sampledAt` is the elapsed count of the last sample, `none` until the first since
power-on (R163; log entries 6 and 23). -/
structure InputLine where
  function : InputFunction
  polarity : Polarity
  checkCode : Nat
  pin : Option Level
  raw : Level
  previous : Level
  sampledAt : Option Nat
  qualified : Option Level
  deriving DecidableEq, Repr

/-- An output line (R162). -/
structure OutputLine where
  function : OutputFunction
  polarity : Polarity
  asserted : Bool
  deriving DecidableEq, Repr

/-- The line unit (R162). -/
structure LineUnit where
  inputs : List InputLine
  outputs : List OutputLine
  deriving DecidableEq, Repr

/-- R162, R165: an input after power-on while the LINES section is not good; raw and previous stand at LOW until the
first sample (log entry 6). -/
def InputLine.unassigned : InputLine := ⟨.none, .activeHigh, 7, none, .low, .low, none, none⟩

/-- R162, R165: an output after power-on while the LINES section is not good. -/
def OutputLine.unassigned : OutputLine := ⟨.none, .activeHigh, false⟩

/-- R162, R165: the line unit after power-on while the LINES section is not good. -/
def LineUnit.powerOn : LineUnit := ⟨List.replicate 16 .unassigned, List.replicate 8 .unassigned⟩

/-! ### Plant link -/

/-- Phase of a link's receiver (R175, R184). -/
inductive ReceiverPhase where
  | hunt | syncSeen | inFrame
  deriving DecidableEq, Repr

/-- Kinds of source, in code order 0 to 5 (09 section 9.1). -/
inductive SourceKind where
  | unused | compressor | expander | vessel | cavern | gridMeter
  deriving DecidableEq, Repr

/-- A source entry (R173). -/
structure SourceEntry where
  address : Nat
  kind : SourceKind
  unit : Nat
  state : SourceState
  lastSequence : Option Byte
  arrival : Option Nat
  held : Option (List Byte)
  deriving DecidableEq, Repr

/-- R173: an unused source entry after power-on. -/
def SourceEntry.unassigned : SourceEntry := ⟨0, .unused, 0, .lost, none, none, none⟩

/-- A frame of the receive queue (R175). -/
structure PlantFrame where
  kind : Byte
  payload : List Byte
  deriving DecidableEq, Repr

/-- An order to a controller (R179): a machine order with its setpoint, or a route order. -/
inductive Order where
  | machine (kind : OrderKind) (setpoint : Nat)
  | route (r : Route)
  deriving DecidableEq, Repr

/-- Status of an order slot (R179). -/
inductive SlotStatus where
  | empty | waiting | sent | confirmed | unconfirmed
  deriving DecidableEq, Repr

/-- An order slot (R179); timers are in ms. -/
structure Slot where
  order : Option Order
  sequence : Option Nat
  lastGiven : Nat
  status : SlotStatus
  confirmTimer : Option Nat
  repeatTimer : Option Nat
  transmissions : Nat
  deriving DecidableEq, Repr

/-- R179: a slot after a power-on reset. -/
def Slot.powerOn : Slot := ⟨none, none, 0, .empty, none, none, 0⟩

/-- The frame in transmission on the plant link (R180): its slot, its bytes, whether its slot's order was replaced during
the transmission, and whether a warm restart has released it from its slot. -/
structure OrderFrame where
  dest : Dest
  bytes : List Byte
  replaced : Bool
  released : Bool
  deriving DecidableEq, Repr

/-- The plant link (R173, R175, R179, R180). `phase`, `inProgress` and `lastByte` are its receiver's, as the station link's
are (R175, R185). -/
structure PlantLink where
  sources : List SourceEntry
  queue : List PlantFrame
  phase : ReceiverPhase
  inProgress : Option (List Byte)
  lastByte : Option Nat
  framingErrors : Nat
  drops : Nat
  rejects : Nat
  duplicates : Nat
  machineSlots : PerMachine Slot
  vesselSlots : PerVessel Slot
  transmitList : List Dest
  transmission : Option OrderFrame
  deriving DecidableEq, Repr

/-- R173, R175, R179, R180: the plant link after power-on while the PORT section is not good. -/
def PlantLink.powerOn : PlantLink :=
  { sources := List.replicate 24 .unassigned, queue := [], phase := .hunt, inProgress := none, lastByte := none
    framingErrors := 0, drops := 0, rejects := 0, duplicates := 0, machineSlots := .all .powerOn, vesselSlots := .all .powerOn
    transmitList := [], transmission := none }

/-! ### Constants store -/

/-- The seven sections, in code order 0 to 6 (11, opening). -/
inductive SectionId where
  | cavern | energy | machines | vessels | market | port | lines
  deriving DecidableEq, Repr

/-- A section in non-volatile memory (R192): its values, the CRC stored with them, and the CRC state. -/
structure SectionImage where
  values : List Int
  crc : Word16
  good : Bool
  deriving DecidableEq, Repr

/-- The seven sections (R192). -/
structure Sections where
  cavern : SectionImage
  energy : SectionImage
  machines : SectionImage
  vessels : SectionImage
  market : SectionImage
  port : SectionImage
  lines : SectionImage
  deriving DecidableEq, Repr

/-- A save slot in non-volatile memory (R109): number, plant time, counters and the CRC stored with them. -/
structure SaveSlot where
  number : Nat
  time : Option PlantTime
  counters : PerMachine Counters
  crc : Word16
  deriving DecidableEq, Repr

/-- A section store in flight (R193). -/
structure StoreInFlight where
  sect : SectionId
  values : List Int
  deriving DecidableEq, Repr

/-- The constants store (R109, R192, R193). -/
structure Constants where
  sections : Sections
  store : Option StoreInFlight
  mode : Mode
  slotA : SaveSlot
  slotB : SaveSlot
  deriving DecidableEq, Repr

/-- A section of a part whose non-volatile memory has never been written: no values and a bad CRC (log entry 5). -/
def SectionImage.blank : SectionImage := ⟨[], 0, false⟩

/-- A save slot that has never been written: its stored CRC is not that of its bytes (log entry 5). -/
def SaveSlot.blank : SaveSlot := ⟨0, none, .all .zero, 0⟩

/-- R192: the constants store after the first power-on of a blank part. -/
def Constants.blank : Constants :=
  { sections := ⟨.blank, .blank, .blank, .blank, .blank, .blank, .blank⟩, store := none, mode := .unconfigured,
    slotA := .blank, slotB := .blank }

/-! ### Replies -/

/-- Reply statuses, in code order 0 to 12 (R187). -/
inductive Status where
  | ok | unknownKind | badLength | argRange | wrongMode | notConfigured | timeInvalid | timeBackward | gateClosed | admission
  | stagingState | busy | lockedOut
  deriving DecidableEq, Repr

/-- Kinds of notice, in code order 1 to 14 (section 10.5). -/
inductive NoticeKind where
  | intervalSettled | shortfall | machineState | vesselSwitched | faultRecorded | tripBegun | tripEnded | shutdown
  | stagingDiscarded | sourceState | inventoryReseeded | constantsStored | timeStepped | overflow
  deriving DecidableEq, Repr

/-- A notice (section 10.5). -/
structure Notice where
  kind : NoticeKind
  time : Option PlantTime
  subject : Nat
  value : Int
  deriving DecidableEq, Repr

/-- Content of Identify's reply (R196). -/
structure Identity where
  vendor : Nat
  part : Nat
  revision : Nat
  trains : Nat
  strings : Nat
  vessels : Nat
  layers : Nat
  windows : Nat
  faultRecords : Nat
  notices : Nat
  sources : Nat
  inputs : Nat
  outputs : Nat
  settlements : Nat
  maxPayload : Nat
  reserve : Bool
  bypass : Bool
  stagedLoad : Bool
  deriving DecidableEq, Repr

/-- Content of ReadStatus's reply (R196). -/
structure StatusReading where
  mode : Mode
  good : List Bool
  storeInFlight : Bool
  restored : Bool
  timeValid : Bool
  tripInProgress : Bool
  shutdown : Bool
  inventory : InventoryState
  notices : Nat
  attentionPending : Bool
  masked : Bool
  tripped : Nat
  lockedOut : Nat
  deriving DecidableEq, Repr

/-- Content of ReadConstants's reply (R193). -/
structure ConstantsReading where
  values : List Int
  good : Bool
  storeInFlight : Bool
  deriving DecidableEq, Repr

/-- Content of ReadTime's reply (R161). -/
structure TimeReading where
  valid : Bool
  endOfRange : Bool
  day : Nat
  second : Nat
  ms : Nat
  active : Option Nat
  remaining : Nat
  lead : Nat
  highestFixed : Option Nat
  elapsedSeconds : Nat
  lastStep : LastStep
  deriving DecidableEq, Repr

/-- One record of ReadIntervals's reply (R24). -/
structure IntervalReading where
  index : Nat
  record : IntervalRecord
  resolved : Int
  deriving DecidableEq, Repr

/-- Content of ReadDispatch's reply (R134). -/
structure DispatchReading where
  t0 : Int
  up : Nat
  down : Nat
  s : Int
  gear : Nat
  rampStep : Nat
  manualTarget : Int
  frequency : Option Nat
  meter : SourceState
  pRes : Int
  f : Int
  clamp : Clamp
  dwellBlocked : Option Dir
  dwellSeconds : Nat
  permitDischarge : Bool
  permitCharge : Bool
  targetCharge : Nat
  targetDischarge : Nat
  committedCharge : Nat
  committedDischarge : Nat
  reserveSum : Int
  shortfallSum : Int
  cycles : Nat
  meterLost : Bool
  startExport : Option Nat
  startImport : Option Nat
  number : Nat
  deriving DecidableEq, Repr

/-- Content of ReadInventory's reply (R53). -/
structure InventoryReading where
  state : InventoryState
  drift : Nat
  m : Nat
  pEst : Nat
  lastPressure : Option Nat
  residual : Int
  temperature : Option Int
  mMin : Nat
  mMax : Nat
  wDis : Nat
  wChg : Nat
  dischargeMargin : Bool
  chargeMargin : Bool
  mStep : Nat
  pRateDis : Nat
  pRateChg : Nat
  eDis : Nat
  eChg : Nat
  hFree : Nat
  hRoom : Nat
  hHeld : Nat
  stored : ProjectionResult
  deriving DecidableEq, Repr

/-- One vessel of ReadVessels's reply (R80). -/
structure VesselReading where
  reported : Bool
  layers : List Int
  valid : List Bool
  invalidCount : Nat
  content : ContentClass
  condition : Condition
  use : UseState
  held : Bool
  stored : Nat
  usable : Nat
  room : Nat
  eligibleCharge : Bool
  eligibleDischarge : Bool
  route : Route
  deriving DecidableEq, Repr

/-- One machine's binding in ReadVessels's reply (R80). -/
structure BindingReading where
  bound : Option VesselId
  target : Option VesselId
  bypass : Bool
  cause : Option SwitchCause
  seconds : Nat
  deriving DecidableEq, Repr

/-- Content of ReadVessels's reply (R80). -/
structure AllocatorReading where
  vessels : List VesselReading
  hold : Nat
  freeze : Bool
  bypassRequested : Bool
  bypassPermitted : Bool
  tree : Tree
  hFree : Nat
  hRoom : Nat
  hHeld : Nat
  reserve : Int
  bindings : List BindingReading
  deriving DecidableEq, Repr

/-- One machine of ReadMachines's reply (R111). -/
structure MachineReading where
  state : MachineState
  adopted : Bool
  report : Option Report
  power : Int
  inlet : Option Int
  source : SourceState
  demand : Demand
  phase : OrderPhase
  setpoint : Nat
  loadPending : Bool
  startSeconds : Nat
  lingerSeconds : Nat
  startFailed : Bool
  controllerTripHanded : Bool
  lockoutPending : Bool
  stoppedSinceTrip : Bool
  acknowledged : Bool
  correcting : Bool
  last : LastTransition
  eoh : Nat
  deriving DecidableEq, Repr

/-- One machine of ReadCounters's reply (R110). -/
structure CounterReading where
  counters : Counters
  eoh : Nat
  averageLoad : Nat
  startPenalty : Nat
  tripPenalty : Nat
  deriving DecidableEq, Repr

/-- Content of ReadFaults's reply (R152). The first record of a non-empty list is the first-out. -/
structure FaultsReading where
  enables : GroupEnables
  tripInProgress : Bool
  shutdown : Bool
  lastTripOrigin : Option Nat
  overflow : Bool
  nextSequence : Nat
  count : Nat
  records : List (Bool × FaultRecord)
  deriving DecidableEq, Repr

/-- One input of ReadLines's reply (R172); `active` is `none` while not yet adopted. -/
structure InputReading where
  function : InputFunction
  polarity : Polarity
  checkCode : Nat
  raw : Level
  qualified : Option Level
  active : Option Bool
  deriving DecidableEq, Repr

/-- One output of ReadLines's reply (R172). -/
structure OutputReading where
  function : OutputFunction
  polarity : Polarity
  asserted : Bool
  level : Level
  deriving DecidableEq, Repr

/-- Content of ReadLines's reply (R172). -/
structure LinesReading where
  inputs : List InputReading
  outputs : List OutputReading
  inForce : Bool
  bypassAllowed : Bool
  deriving DecidableEq, Repr

/-- One entry of ReadSources's summary (R183); the age is in ms. -/
structure SourceSummary where
  address : Nat
  kind : SourceKind
  unit : Nat
  state : SourceState
  lastSequence : Option Byte
  age : Option Nat
  deriving DecidableEq, Repr

/-- One destination of ReadSources's summary (R183). -/
structure SlotReading where
  status : SlotStatus
  order : Option Order
  sequence : Option Nat
  lastGiven : Nat
  confirmMs : Nat
  repeatMs : Nat
  transmissions : Nat
  deriving DecidableEq, Repr

/-- Content of ReadSources's summary (R183). -/
structure LinkReading where
  inForce : Bool
  entries : List SourceSummary
  tStale : List Nat
  tLost : List Nat
  orderRepeat : Nat
  orderConfirm : Nat
  slots : List SlotReading
  queued : Nat
  waiting : Nat
  framingErrors : Nat
  drops : Nat
  rejects : Nat
  duplicates : Nat
  deriving DecidableEq, Repr

/-- What a reply carries after its status byte, as the owning rule lists it (R187). -/
inductive Content where
  | none
  | identity (r : Identity)
  | status (r : StatusReading)
  | mode (m : Mode)
  | constants (r : ConstantsReading)
  | timeSet (kind : StepKind) (boundaries : Nat)
  | time (r : TimeReading)
  | interval (absolute : Nat)
  | violation (interval : Nat) (kind : Violation)
  | intervals (rs : List IntervalReading)
  | windows (ws : List Window)
  | settlements (count : Nat) (rs : List Settlement)
  | dispatch (r : DispatchReading)
  | inventory (r : InventoryReading)
  | vesselCondition (c : Condition)
  | allocator (r : AllocatorReading)
  | machines (rs : List MachineReading)
  | counters (rs : List CounterReading) (restored : Bool) (lastSave : Option SaveStamp)
  | machineState (s : MachineState)
  | acknowledged (tripInProgress : Bool) (tripped lockedOut : Nat)
  | condition (which : Nat)
  | faults (r : FaultsReading)
  | faultsLeft (n : Nat)
  | notices (returned left : Nat) (ns : List Notice)
  | attention (masked pending : Bool) (held : Nat)
  | lines (r : LinesReading)
  | source (address : Nat) (kind : SourceKind) (unit : Nat) (state : SourceState) (held : Option (List Byte))
  | link (r : LinkReading)
  deriving DecidableEq, Repr

/-- The owner's answer to a request: status and content (R187). -/
structure Answer where
  status : Status
  content : Content
  deriving DecidableEq, Repr

/-- A reply frame (R187): request kind plus 0x80, the request's tag, and the answer. Its bytes are `Reply.bytes`. -/
structure Reply where
  kind : Byte
  tag : Byte
  answer : Answer
  deriving DecidableEq, Repr

/-! ### Station link -/

/-- A request frame of the queue (R186). -/
structure RequestFrame where
  kind : Byte
  tag : Byte
  payload : List Byte
  deriving DecidableEq, Repr

/-- What the station transmitter is sending (R188). -/
inductive StationTx where
  | idle | reply | busy
  deriving DecidableEq, Repr

/-- The station link (R184). `lastByte` is the elapsed count at the last byte of the frame in progress (R185);
`restartAsked` says that a Restart request was answered OK and its restart has not been taken (R188, R195);
`sending` is the bytes of the frame in transmission (R188, R197); `answer` is the model's own record of the last request
taken (log entry 1). -/
structure StationLink where
  phase : ReceiverPhase
  inProgress : Option (List Byte)
  lastByte : Option Nat
  queue : List RequestFrame
  busyReply : Option Reply
  headReply : Option Reply
  tx : StationTx
  sending : Option (List Byte)
  notices : List Notice
  attentionPending : Bool
  masked : Bool
  restartAsked : Bool
  answer : Option Answer
  deriving DecidableEq, Repr

/-- R184: the station link after a power-on reset. -/
def StationLink.powerOn : StationLink :=
  { phase := .hunt, inProgress := none, lastByte := none, queue := [], busyReply := none, headReply := none, tx := .idle
    sending := none, notices := [], attentionPending := false, masked := true, restartAsked := false, answer := none }

/-! ### The part and the state -/

/-- The eleven blocks of the CK-4 (00_scope, "Block overview"). -/
structure Ck4 where
  schedule : Schedule
  inventory : Inventory
  allocator : Allocator
  sequencer : Sequencer
  dispatch : DispatchUnit
  protection : Protection
  time : TimeBase
  lines : LineUnit
  plantLink : PlantLink
  station : StationLink
  constants : Constants
  deriving DecidableEq, Repr

/-- The part after the first power-on, with blank non-volatile memory: UNCONFIGURED (R192; log entry 5). -/
def Ck4.blank : Ck4 :=
  { schedule := .powerOn, inventory := .powerOn, allocator := .powerOn,
    sequencer := .powerOn (.all .zero) false none, dispatch := .powerOn, protection := .powerOn, time := .powerOn,
    lines := .powerOn, plantLink := .powerOn, station := .powerOn, constants := .blank }

/-- The machine: the part and the queue of commands that wait, first in first out. -/
structure State where
  part : Ck4
  pending : List Instr
  deriving DecidableEq, Repr

/-- The machine right after the first power-on reset, with no command waiting. -/
def State.reset : State := { part := .blank, pending := [] }

/-- Faults that would stop the machine. The spec has none: its faults are records of protection (R136), held in State. -/
inductive Fault where
  deriving DecidableEq, Repr

/-- Refusals. -/
inductive Refusal where
  /-- Raised by an arm of `exec` whose command has no meaning yet; safe, since the machine stops. No arm raises it. -/
  | notModelled (mnemonic : String)
  deriving DecidableEq, Repr

end Sys2Proof.Machine
end

