-- ==== Sys2Proof/Machine/Ops.lean ====
section
/-! DEFINITION. Shared operations: the divisions of R1, indexes and codes, bytes and the CRC of R197, plant time, and the
posting of notices (R189). -/

namespace Sys2Proof.Machine

/-! ### Arithmetic (R1) -/

/-- R1, "rounded up": the ceiling of `a / b`. -/
def ceilDiv (a b : Nat) : Nat := (a + b - 1) / b

/-- R1, "to nearest": the nearest integer to `a / b`, halves rounded up. -/
def nearestDiv (a b : Nat) : Nat := (2 * a + b) / (2 * b)

/-- A count that stays at its bound (R107, R175, R179). -/
def saturate (bound n : Nat) : Nat := min bound n

/-- A signed quantity held between two bounds (R159). -/
def clampInt (lo hi z : Int) : Int := max lo (min hi z)

/-- Sum of a list of figures. -/
def sumNat (l : List Nat) : Nat := l.foldl (· + ·) 0

/-- A running timer of `ms` milliseconds in whole seconds, rounded up; 0 when stopped (R80, R111, R134). -/
def secondsLeft (timer : Option Nat) : Nat :=
  match timer with
  | none => 0
  | some ms => ceilDiv ms 1000

/-! ### Indexes and codes -/

/-- Index of a machine, 0 to 4. -/
def machineIndex (m : MachineId) : Nat :=
  match m with
  | .c1 => 0
  | .c2 => 1
  | .c3 => 2
  | .e1 => 3
  | .e2 => 4

/-- The machines in index order. -/
def allMachines : List MachineId := [.c1, .c2, .c3, .e1, .e2]

/-- The compressor trains in index order. -/
def trains : List MachineId := [.c1, .c2, .c3]

/-- The expansion strings in index order. -/
def strings : List MachineId := [.e1, .e2]

/-- The machine of an index, if there is one. -/
def machineOf (n : Nat) : Option MachineId :=
  match n with
  | 0 => some .c1
  | 1 => some .c2
  | 2 => some .c3
  | 3 => some .e1
  | 4 => some .e2
  | _ => none

/-- 00_scope, "Signs and directions": trains charge, strings discharge. -/
def machineDir (m : MachineId) : Dir :=
  match m with
  | .c1 => .charge
  | .c2 => .charge
  | .c3 => .charge
  | .e1 => .discharge
  | .e2 => .discharge

/-- The machines of a direction, in index order. -/
def machinesOf (d : Dir) : List MachineId :=
  match d with
  | .charge => trains
  | .discharge => strings

/-- The opposite direction. -/
def otherDir (d : Dir) : Dir :=
  match d with
  | .charge => .discharge
  | .discharge => .charge

/-- The direction of a signed power; 0 has none (00_scope, "Signs and directions"). -/
def powerDir (z : Int) : Option Dir :=
  if z > 0 then some .discharge else if z < 0 then some .charge else none

/-- Index of a vessel, 0 to 7. -/
def vesselIndex (v : VesselId) : Nat :=
  match v with
  | .v0 => 0
  | .v1 => 1
  | .v2 => 2
  | .v3 => 3
  | .v4 => 4
  | .v5 => 5
  | .v6 => 6
  | .v7 => 7

/-- The vessels in index order. -/
def allVessels : List VesselId := [.v0, .v1, .v2, .v3, .v4, .v5, .v6, .v7]

/-- The vessel of an index, if there is one. -/
def vesselOf (n : Nat) : Option VesselId :=
  match n with
  | 0 => some .v0
  | 1 => some .v1
  | 2 => some .v2
  | 3 => some .v3
  | 4 => some .v4
  | 5 => some .v5
  | 6 => some .v6
  | 7 => some .v7
  | _ => none

/-- R200: codes of the plant modes, as replies carry them. -/
def modeCode (m : Mode) : Nat :=
  match m with
  | .unconfigured => 0
  | .standby => 1
  | .auto => 2
  | .manual => 3
  | .shutdown => 4

/-- R173: codes of the source states. -/
def sourceStateCode (s : SourceState) : Nat :=
  match s with
  | .fresh => 0
  | .stale => 1
  | .lost => 2

/-- 04 section 4.2: codes of the tracked states. -/
def machineStateCode (s : MachineState) : Nat :=
  match s with
  | .stopped => 0
  | .starting => 1
  | .idle => 2
  | .loading => 3
  | .loaded => 4
  | .unloading => 5
  | .stopping => 6
  | .tripped => 7
  | .lockedOut => 8

/-- R101: codes of the report values. -/
def reportCode (r : Report) : Nat :=
  match r with
  | .stopped => 0
  | .starting => 1
  | .runUnloaded => 2
  | .loaded => 3
  | .unloading => 4
  | .stopping => 5
  | .tripped => 6

/-- R101, R198: the report of a code; a code above 6 names none. -/
def reportOf (n : Nat) : Option Report :=
  match n with
  | 0 => some .stopped
  | 1 => some .starting
  | 2 => some .runUnloaded
  | 3 => some .loaded
  | 4 => some .unloading
  | 5 => some .stopping
  | 6 => some .tripped
  | _ => none

/-- R106: codes of the causes. -/
def causeCode (c : Cause) : Nat :=
  match c with
  | .none => 0
  | .startDemand => 1
  | .runReported => 2
  | .loadDemand => 3
  | .loadedReported => 4
  | .noVessel => 5
  | .reheatLow => 6
  | .shed => 7
  | .margin => 8
  | .heat => 9
  | .bypassLost => 10
  | .faultUnload => 11
  | .mode => 12
  | .restart => 13
  | .linger => 14
  | .stoppedReported => 15
  | .trip => 16
  | .tripAck => 17
  | .lockout => 18
  | .lockoutReleased => 19
  | .unexpectedReport => 20
  | .adopted => 21

/-- R51: codes of the violation kinds. -/
def violationCode (k : Violation) : Nat :=
  match k with
  | .none => 0
  | .notSeeded => 1
  | .heatRoom => 2
  | .massLow => 3
  | .massHigh => 4
  | .heatLow => 5
  | .rate => 6
  | .heldHeat => 7

/-- R140: codes of the groups. -/
def groupCode (g : Group) : Nat :=
  match g with
  | .machC => 0
  | .machE => 1
  | .vessel => 2
  | .cavern => 3
  | .port => 4
  | .lines => 5

/-- R140: codes of the severities. -/
def severityCode (s : Severity) : Nat :=
  match s with
  | .warn => 0
  | .unload => 1
  | .machine => 2
  | .direction => 3
  | .plant => 4

/-- 06 section 6.6: reason codes. -/
def reasonCode (r : Reason) : Nat :=
  match r with
  | .startFail => 1
  | .controllerTripped => 2
  | .unexpectedState => 3
  | .sensor => 16
  | .switchTimeout => 17
  | .totaliser => 32
  | .tempRange => 33
  | .discrepancy => 34
  | .lost => 48
  | .orderUnconfirmed => 49
  | .estop => 64
  | .gridLoss => 65
  | .tripLine => 66
  | .breakerOpened => 67
  | .cavernHigh => 68
  | .cavernLow => 69

/-- 10 section 10.5: codes of the notice kinds. -/
def noticeCode (k : NoticeKind) : Nat :=
  match k with
  | .intervalSettled => 1
  | .shortfall => 2
  | .machineState => 3
  | .vesselSwitched => 4
  | .faultRecorded => 5
  | .tripBegun => 6
  | .tripEnded => 7
  | .shutdown => 8
  | .stagingDiscarded => 9
  | .sourceState => 10
  | .inventoryReseeded => 11
  | .constantsStored => 12
  | .timeStepped => 13
  | .overflow => 14

/-- R187: codes of the reply statuses, the first byte of a reply's payload. -/
def statusCode (s : Status) : Nat :=
  match s with
  | .ok => 0
  | .unknownKind => 1
  | .badLength => 2
  | .argRange => 3
  | .wrongMode => 4
  | .notConfigured => 5
  | .timeInvalid => 6
  | .timeBackward => 7
  | .gateClosed => 8
  | .admission => 9
  | .stagingState => 10
  | .busy => 11
  | .lockedOut => 12

/-- 11, opening: codes of the sections. -/
def sectionCode (s : SectionId) : Nat :=
  match s with
  | .cavern => 0
  | .energy => 1
  | .machines => 2
  | .vessels => 3
  | .market => 4
  | .port => 5
  | .lines => 6

/-- 11, opening: the section of a code; a code above 6 names none. -/
def sectionOf (n : Nat) : Option SectionId :=
  match n with
  | 0 => some .cavern
  | 1 => some .energy
  | 2 => some .machines
  | 3 => some .vessels
  | 4 => some .market
  | 5 => some .port
  | 6 => some .lines
  | _ => none

/-- 12.2: codes of the machine orders. -/
def orderKindCode (k : OrderKind) : Nat :=
  match k with
  | .start => 0
  | .load => 1
  | .unload => 2
  | .stop => 3
  | .trip => 4

/-! ### Bytes and the CRC (12, R197) -/

/-- The `k` low bytes of a number, low byte first. -/
def bytesOf (k n : Nat) : List Byte :=
  match k with
  | 0 => []
  | k + 1 => BitVec.ofNat 8 n :: bytesOf k (n / 256)

/-- The number that bytes spell, low byte first. -/
def natOf (bs : List Byte) : Nat :=
  match bs with
  | [] => 0
  | b :: rest => b.toNat + 256 * natOf rest

/-- The `k` bytes of a signed number, two's complement, low byte first. -/
def signedBytes (k : Nat) (z : Int) : List Byte := bytesOf k (z % (256 ^ k : Nat)).toNat

/-- A number of `k` bytes read as two's complement. -/
def signedOf (k n : Nat) : Int := if n < 256 ^ k / 2 then (n : Int) else (n : Int) - (256 ^ k : Nat)

/-- The unsigned field of `k` bytes at an offset of a payload. -/
def field (payload : List Byte) (offset k : Nat) : Nat := natOf ((payload.drop offset).take k)

/-- The signed field of `k` bytes at an offset of a payload. -/
def signedField (payload : List Byte) (offset k : Nat) : Int := signedOf k (field payload offset k)

/-- R197: one shift of the CRC register. -/
def crcShift (r : Word16) : Word16 := if r.getLsbD 15 then (r <<< 1) ^^^ 0x1021#16 else r <<< 1

/-- R197: one byte into the CRC register: exclusive-or into the high eight bits, then eight shifts. -/
def crcByte (r : Word16) (b : Byte) : Word16 :=
  crcShift (crcShift (crcShift (crcShift (crcShift (crcShift (crcShift (crcShift
    (r ^^^ (b.setWidth 16 <<< 8)))))))))

/-- R197: the CRC over bytes, in the order sent; the register starts at 0xFFFF. -/
def crc16 (bs : List Byte) : Word16 := bs.foldl crcByte 0xFFFF#16

/-- 12.1: the bytes of a frame from its length to its CRC, without the sync. -/
def frameBody (kind tag : Byte) (payload : List Byte) : List Byte :=
  bytesOf 2 payload.length ++ kind :: tag :: payload

/-- 12.1, R197: a whole frame as sent, with sync and CRC, low byte first. -/
def frameBytes (kind tag : Byte) (payload : List Byte) : List Byte :=
  let body := frameBody kind tag payload
  0xD3#8 :: 0x1C#8 :: body ++ bytesOf 2 (crc16 body).toNat

/-- R197: whether the bytes after the sync are a complete frame whose CRC is good. -/
def frameGood (bytes : List Byte) : Bool :=
  let len := field bytes 0 2
  bytes.length == len + 6 && (crc16 (bytes.take (len + 4))).toNat == field bytes (len + 4) 2

/-! ### Framing (R175, R185) -/

/-- What a byte makes of a link's receiver (R185): nothing, a return to HUNT, a phase with the bytes of the frame in progress,
a frame given up for its length field, or a frame whose bytes, from its length to its CRC, are all held. -/
inductive Framing where
  | ignored
  | unsynced
  | takes (phase : ReceiverPhase) (bytes : Option (List Byte))
  | tooLong
  | held (bytes : List Byte)
  deriving DecidableEq, Repr

/-- R185: the bytes of a frame in progress, the newest among them. -/
def framedBytes (bytes : List Byte) : Framing :=
  if bytes.length < 2 then .takes .inFrame (some bytes)
  else if field bytes 0 2 > Config.maxPayload then .tooLong
  else if bytes.length < field bytes 0 2 + 6 then .takes .inFrame (some bytes)
  else .held bytes

/-- R185: the table of the receiver, for its phase, its frame in progress and a byte. -/
def framing (phase : ReceiverPhase) (inProgress : Option (List Byte)) (b : Byte) : Framing :=
  match phase with
  | .hunt => if b = 0xD3#8 then .takes .syncSeen none else .ignored
  | .syncSeen =>
    if b = 0x1C#8 then .takes .inFrame (some []) else if b = 0xD3#8 then .takes .syncSeen none else .unsynced
  | .inFrame => framedBytes (inProgress.getD [] ++ [b])

/-- R175, R185: more than 10 ms of the elapsed count have passed since the last byte of what a receiver has open. -/
def gapOver (phase : ReceiverPhase) (lastByte : Option Nat) (elapsed : Nat) : Bool :=
  phase != .hunt &&
    match lastByte with
    | some t => elapsed - t > 10
    | none => false

/-! ### Plant time -/

/-- The plant time of a record or notice: absent while plant time is not valid. -/
def Ck4.stamp (p : Ck4) : Option PlantTime :=
  if p.time.valid then some ⟨p.time.day, p.time.second, p.time.ms⟩ else none

/-- The plant mode in force. -/
def Ck4.mode (p : Ck4) : Mode := p.constants.mode

/-- Dispatch and the sequencer load machines in AUTO and MANUAL only. -/
def Ck4.running (p : Ck4) : Bool := p.mode == .auto || p.mode == .manual

/-- The interval of the present moment: its index, which is also its absolute index (R154); none while time is not valid. -/
def Ck4.active (p : Ck4) : Option Nat := if p.time.valid then some (p.time.second / 900) else none

/-- R46: the seconds remaining in the active interval, 1 to 900. -/
def Ck4.remaining (p : Ck4) : Nat := 900 - p.time.second % 900

/-! ### Notices (R189, R191) -/

/-- R189: how a queue takes a notice. -/
def enqueueNotice (queue : List Notice) (n : Notice) : List Notice :=
  match queue.getLast? with
  | some last =>
    if last.kind == .overflow then
      queue.dropLast ++ [{ last with value := min 4294967295 (last.value + 1) }]
    else if queue.length < Config.noticeQueueSize - 1 then queue ++ [n]
    else queue ++ [⟨.overflow, n.time, noticeCode n.kind, 1⟩]
  | none => [n]

/-- R189, R191: a block posts a notice; a notice placed in the empty queue makes attention pending. -/
def Ck4.post (p : Ck4) (kind : NoticeKind) (subject : Nat) (value : Int) : Ck4 :=
  { p with station := { p.station with
      notices := enqueueNotice p.station.notices ⟨kind, p.stamp, subject, value⟩
      attentionPending := p.station.attentionPending || p.station.notices.isEmpty } }

/-! ### Access to the records -/

/-- The record of machine `m`. -/
def Ck4.mach (p : Ck4) (m : MachineId) : MachineRecord := p.sequencer.machines.get m

/-- The record of machine `m` is replaced. -/
def Ck4.setMach (p : Ck4) (m : MachineId) (r : MachineRecord) : Ck4 :=
  { p with sequencer := { p.sequencer with machines := p.sequencer.machines.set m r } }

/-- The record of vessel `v`. -/
def Ck4.vessel (p : Ck4) (v : VesselId) : VesselRecord := p.allocator.vessels.get v

/-- The record of vessel `v` is replaced. -/
def Ck4.setVessel (p : Ck4) (v : VesselId) (r : VesselRecord) : Ck4 :=
  { p with allocator := { p.allocator with vessels := p.allocator.vessels.set v r } }

/-- The binding record of machine `m`. -/
def Ck4.binding (p : Ck4) (m : MachineId) : Binding := p.allocator.bindings.get m

/-- The binding record of machine `m` is replaced. -/
def Ck4.setBinding (p : Ck4) (m : MachineId) (b : Binding) : Ck4 :=
  { p with allocator := { p.allocator with bindings := p.allocator.bindings.set m b } }

/-- 04 section 4.2: in service in its direction. -/
def inService (s : MachineState) : Bool := s == .loading || s == .loaded || s == .unloading

/-- Whether any machine of a direction is in service. -/
def Ck4.dirInService (p : Ck4) (d : Dir) : Bool := (machinesOf d).any fun m => inService (p.mach m).state

end Sys2Proof.Machine
end

