-- ==== Sys2Proof/Machine/Operands.lean ====
section
/-! DEFINITION. The constants of the seven sections under the names the chapters give them, in the order of R200. -/

namespace Sys2Proof.Machine

/-- The image of a section. -/
def Sections.get (s : Sections) (id : SectionId) : SectionImage :=
  match id with
  | .cavern => s.cavern
  | .energy => s.energy
  | .machines => s.machines
  | .vessels => s.vessels
  | .market => s.market
  | .port => s.port
  | .lines => s.lines

/-- The image of a section is replaced. -/
def Sections.set (s : Sections) (id : SectionId) (x : SectionImage) : Sections :=
  match id with
  | .cavern => { s with cavern := x }
  | .energy => { s with energy := x }
  | .machines => { s with machines := x }
  | .vessels => { s with vessels := x }
  | .market => { s with market := x }
  | .port => { s with port := x }
  | .lines => { s with lines := x }

/-- Whether a section's CRC is good (R192). -/
def Ck4.good (p : Ck4) (id : SectionId) : Bool := (p.constants.sections.get id).good

/-- Constant `i` of a section, in the order of R200. While the section's CRC is bad it gives no value, and a reader meets a
free value (R192; log entry 7). -/
def Ck4.constant (p : Ck4) (id : SectionId) (i : Nat) : Int :=
  if p.good id then (p.constants.sections.get id).values.getD i 0 else Config.absentConstant (sectionCode id) i

/-- A constant that is not negative. -/
def Ck4.constantNat (p : Ck4) (id : SectionId) (i : Nat) : Nat := (p.constant id i).toNat

/-! #### CAVERN -/
/-- Cavern volume V, m³. -/
def Ck4.volume (p : Ck4) : Nat := p.constantNat .cavern 0
/-- Gas coefficient G, 0.001 J/(kg·K). -/
def Ck4.gas (p : Ck4) : Nat := p.constantNat .cavern 1
/-- p_min, kPa. -/
def Ck4.pMin (p : Ck4) : Nat := p.constantNat .cavern 2
/-- p_max, kPa. -/
def Ck4.pMax (p : Ck4) : Nat := p.constantNat .cavern 3
/-- p_margin, kPa. -/
def Ck4.pMargin (p : Ck4) : Nat := p.constantNat .cavern 4
/-- dp_max, kPa per hour. -/
def Ck4.dpMax (p : Ck4) : Nat := p.constantNat .cavern 5
/-- tol, kPa. -/
def Ck4.tol (p : Ck4) : Nat := p.constantNat .cavern 6
/-- k, the reconciliation shift. -/
def Ck4.shiftK (p : Ck4) : Nat := p.constantNat .cavern 7
/-- N_drift. -/
def Ck4.nDrift (p : Ck4) : Nat := p.constantNat .cavern 8
/-- The max totaliser step, kg. -/
def Ck4.maxStep (p : Ck4) : Nat := p.constantNat .cavern 9

/-! #### ENERGY -/
/-- Y_dis10, 0.1 kWh per tonne. -/
def Ck4.yDis (p : Ck4) : Nat := p.constantNat .energy 0
/-- Y_chg10. -/
def Ck4.yChg (p : Ck4) : Nat := p.constantNat .energy 1
/-- H_dis10. -/
def Ck4.hDis (p : Ck4) : Nat := p.constantNat .energy 2
/-- H_chg10. -/
def Ck4.hChg (p : Ck4) : Nat := p.constantNat .energy 3

/-! #### MACHINES -/
/-- Rating of a machine, 0.1 MW. -/
def Ck4.rating (p : Ck4) (m : MachineId) : Nat := p.constantNat .machines (3 * machineIndex m)
/-- Minimum power of a machine, 0.1 MW. -/
def Ck4.minPower (p : Ck4) (m : MachineId) : Nat := p.constantNat .machines (3 * machineIndex m + 1)
/-- start_time_limit of a machine, s. -/
def Ck4.startLimit (p : Ck4) (m : MachineId) : Nat := p.constantNat .machines (3 * machineIndex m + 2)
/-- start_penalty, s. -/
def Ck4.startPenalty (p : Ck4) : Nat := p.constantNat .machines 15
/-- trip_penalty, s. -/
def Ck4.tripPenalty (p : Ck4) : Nat := p.constantNat .machines 16
/-- idle_linger, s. -/
def Ck4.idleLinger (p : Ck4) : Nat := p.constantNat .machines 17
/-- unload_margin, 0.1 MW. -/
def Ck4.unloadMargin (p : Ck4) : Nat := p.constantNat .machines 20

/-- R112: value `i` of the MACHINES section as dispatch uses it: that of its last cycle until the cycle after a store. -/
def Ck4.dispatchConstant (p : Ck4) (i : Nat) : Nat :=
  match p.dispatch.held with
  | some values => (values.getD i 0).toNat
  | none => p.constantNat .machines i
/-- Rating of a machine as dispatch uses it (R112). -/
def Ck4.dispatchRating (p : Ck4) (m : MachineId) : Nat := p.dispatchConstant (3 * machineIndex m)
/-- dwell as dispatch uses it, s (R112). -/
def Ck4.dispatchDwell (p : Ck4) : Nat := p.dispatchConstant 18
/-- R_plant as dispatch uses it, 0.1 MW per second (R112). -/
def Ck4.dispatchRamp (p : Ck4) : Nat := p.dispatchConstant 19

/-- Sum of the ratings of the machines of a direction, whatever their state (R9, R18). -/
def Ck4.ratingSum (p : Ck4) (d : Dir) : Nat := sumNat ((machinesOf d).map p.rating)
/-- The same sum as dispatch uses it (R112, R129). -/
def Ck4.dispatchRatingSum (p : Ck4) (d : Dir) : Nat := sumNat ((machinesOf d).map p.dispatchRating)

/-! #### VESSELS -/
/-- C10 of a vessel, 0.1 kWh_th per K. -/
def Ck4.c10 (p : Ck4) (v : VesselId) : Nat := p.constantNat .vessels (vesselIndex v)
/-- T_base, 0.1 °C. -/
def Ck4.tBase (p : Ck4) : Int := p.constant .vessels 8
/-- T_reheat_min, 0.1 °C. -/
def Ck4.tReheatMin (p : Ck4) : Int := p.constant .vessels 9
/-- T_full_bottom, 0.1 °C. -/
def Ck4.tFullBottom (p : Ck4) : Int := p.constant .vessels 10
/-- T_charge_max, 0.1 °C. -/
def Ck4.tChargeMax (p : Ck4) : Int := p.constant .vessels 11
/-- switch_time_limit, s. -/
def Ck4.switchLimit (p : Ck4) : Nat := p.constantNat .vessels 12

/-! #### MARKET -/
/-- The gate lead L. -/
def Ck4.gateLead (p : Ck4) : Nat := p.constantNat .market 0
/-- f_nominal, mHz. -/
def Ck4.fNominal (p : Ck4) : Nat := p.constantNat .market 1
/-- The deadband, mHz. -/
def Ck4.deadband (p : Ck4) : Nat := p.constantNat .market 2
/-- f_full, mHz. -/
def Ck4.fFull (p : Ck4) : Nat := p.constantNat .market 3

/-! #### PORT -/
/-- Codes 1 to 5 of the source kinds; 0 is unused (09 section 9.1). -/
def sourceKindCode (k : SourceKind) : Nat :=
  match k with
  | .unused => 0
  | .compressor => 1
  | .expander => 2
  | .vessel => 3
  | .cavern => 4
  | .gridMeter => 5

/-- The source kind of a code. -/
def sourceKindOf (n : Int) : SourceKind :=
  if n = 1 then .compressor else if n = 2 then .expander else if n = 3 then .vessel
  else if n = 4 then .cavern else if n = 5 then .gridMeter else .unused

/-- t_stale of a kind, ms. -/
def Ck4.tStale (p : Ck4) (k : SourceKind) : Nat := p.constantNat .port (71 + sourceKindCode k)
/-- t_lost of a kind, ms. -/
def Ck4.tLost (p : Ck4) (k : SourceKind) : Nat := p.constantNat .port (76 + sourceKindCode k)
/-- order_repeat, ms. -/
def Ck4.orderRepeat (p : Ck4) : Nat := p.constantNat .port 82
/-- order_confirm, s. -/
def Ck4.orderConfirm (p : Ck4) : Nat := p.constantNat .port 83

/-! #### LINES -/
/-- R165: the input function of a code. -/
def inputFunctionOf (n : Int) : InputFunction :=
  if n = 1 then .estop else if n = 2 then .gridLoss
  else if n = 3 then .trip .c1 else if n = 4 then .trip .c2 else if n = 5 then .trip .c3
  else if n = 6 then .trip .e1 else if n = 7 then .trip .e2
  else if n = 8 then .breaker .c1 else if n = 9 then .breaker .c2 else if n = 10 then .breaker .c3
  else if n = 11 then .breaker .e1 else if n = 12 then .breaker .e2
  else if n = 13 then .cavernHigh else if n = 14 then .cavernLow else if n = 15 then .coolerReady else .none

/-- R171: the output function of a code. -/
def outputFunctionOf (n : Int) : OutputFunction :=
  if n = 1 then .plantTrip else if n = 2 then .compTrip else if n = 3 then .expTrip else if n = 4 then .attention
  else if n = 5 then .shutdown else if n = 6 then .bypassCooler else if n = 7 then .reserveActive else .none

/-- R165: the polarity of a code. -/
def polarityOf (n : Int) : Polarity := if n = 1 then .activeLow else .activeHigh

end Sys2Proof.Machine
end

