-- ==== Sys2Proof/Machine/Flags.lean ====
section
/-! DEFINITION. Levels and flags read by several blocks: active input lines (R162), the attention signal (R191), the
conditions of the outputs and their recomputation (R171). -/

namespace Sys2Proof.Machine

/-- R162: whether a qualified level is active under a polarity. -/
def levelActive (pol : Polarity) (l : Level) : Bool :=
  match pol with
  | .activeHigh => l == .high
  | .activeLow => l == .low

/-- R162: active, inactive, or neither while the qualified level is UNKNOWN. -/
def InputLine.active (i : InputLine) : Option Bool := i.qualified.map (levelActive i.polarity)

/-- The input line that a function is assigned to (R165: at most one). -/
def Ck4.lineOf (p : Ck4) (f : InputFunction) : Option InputLine := p.lines.inputs.find? fun i => i.function == f

/-- R100, R151, R166: the function is assigned and its line is active or UNKNOWN. -/
def Ck4.activeOrUnknown (p : Ck4) (f : InputFunction) : Bool :=
  match p.lineOf f with
  | none => false
  | some i => i.active != some false

/-- R65, R85, R168, R170: the function is assigned to no line, or its line is active. -/
def Ck4.unassignedOrActive (p : Ck4) (f : InputFunction) : Bool :=
  match p.lineOf f with
  | none => true
  | some i => i.active == some true

/-- R168: the function is assigned and its line is inactive. -/
def Ck4.assignedInactive (p : Ck4) (f : InputFunction) : Bool :=
  match p.lineOf f with
  | none => false
  | some i => i.active == some false

/-- R170: whether COOLER_READY allows bypass. -/
def Ck4.coolerAllows (p : Ck4) : Bool := p.unassignedOrActive .coolerReady

/-- R191: the attention signal. -/
def Ck4.attentionSignal (p : Ck4) : Bool := p.station.attentionPending && !p.station.masked

/-- R171: whether the condition of an output function holds. -/
def Ck4.outputCondition (p : Ck4) (f : OutputFunction) : Bool :=
  match f with
  | .none => false
  | .plantTrip => p.protection.tripInProgress || p.protection.shutdown
  | .compTrip => (trains.any fun m => (p.mach m).state == .tripped) || p.protection.shutdown
  | .expTrip => (strings.any fun m => (p.mach m).state == .tripped) || p.protection.shutdown
  | .attention => p.attentionSignal
  | .shutdown => p.protection.shutdown
  | .bypassCooler => trains.any fun m => (p.binding m).bypass
  | .reserveActive => p.dispatch.pRes != 0

/-- R171: every output is recomputed from the conditions as the blocks hold them. -/
def Ck4.refreshOutputs (p : Ck4) : Ck4 :=
  { p with lines := { p.lines with
      outputs := p.lines.outputs.map fun o => { o with asserted := p.outputCondition o.function } } }

/-- R162: the level an output drives. -/
def OutputLine.level (o : OutputLine) : Level :=
  match o.polarity, o.asserted with
  | .activeHigh, true => .high
  | .activeHigh, false => .low
  | .activeLow, true => .low
  | .activeLow, false => .high

end Sys2Proof.Machine
end

