-- ==== Sys2Proof/Machine/Layouts.lean ====
section
/-! DEFINITION. The byte layouts of the records that replies repeat (12.3, R199), the payload of a reply (R187) and the bytes
of its frame (R197). What chapter 12 does not lay out is a free value (`Config.unlaidBytes`, log entry 12), and so is an energy that its field cannot
hold (`Config.wideEnergy`, log entry 45). -/

namespace Sys2Proof.Machine

/-! ### Codes of 12.3 -/

/-- 12.3: codes of the interval statuses. -/
def intervalStatusCode (s : IntervalStatus) : Nat :=
  match s with
  | .empty => 0
  | .indicative => 1
  | .firm => 2
  | .locked => 3
  | .dropped => 4
  | .active => 5
  | .settled => 6

/-- 12.3: codes of the window kinds. -/
def windowKindCode (k : WindowKind) : Nat :=
  match k with
  | .block => 0
  | .setpoint => 1
  | .capDischarge => 2
  | .capCharge => 3

/-- 12.3: the flags of a record, bit 0 first. -/
def flagBits (flags : List Bool) : Nat :=
  match flags with
  | [] => 0
  | f :: rest => (if f then 1 else 0) + 2 * flagBits rest

/-! ### Records of 12.3 -/

/-- 12.3: an interval record in the offered layout; an absent trade reference is sent as 0. -/
def intervalBytes (r : IntervalRecord) : List Byte :=
  bytesOf 1 (intervalStatusCode r.status) ++ bytesOf 1 (flagBits [r.committed, r.reference.isSome]) ++ signedBytes 2 r.power ++
    bytesOf 2 r.up ++ bytesOf 2 r.down ++ bytesOf 4 (r.reference.getD 0)

/-- 12.3: an interval record as returned. -/
def returnedIntervalBytes (r : IntervalReading) : List Byte :=
  bytesOf 1 r.index ++ intervalBytes r.record ++ signedBytes 2 r.resolved

/-- 12.3, R199: window `i` as returned; a free window is eight bytes 0. -/
def windowBytes (i : Nat) (w : Window) : List Byte :=
  if w.inUse then
    bytesOf 1 i ++ bytesOf 1 (flagBits [true]) ++ bytesOf 1 (windowKindCode w.kind) ++ bytesOf 1 w.mask ++ bytesOf 1 w.first ++
      bytesOf 1 w.last ++ signedBytes 2 w.value
  else List.replicate 8 0#8

/-- 12.3: the windows of a list, the first of index `i`. -/
def windowsBytes (i : Nat) (ws : List Window) : List Byte :=
  match ws with
  | [] => []
  | w :: rest => windowBytes i w ++ windowsBytes (i + 1) rest

/-- 12.3, R199: day and millisecond of day of a record's plant time, each 0 where it is absent. -/
def recordTime (t : Option PlantTime) : List Byte :=
  match t with
  | none => bytesOf 6 0
  | some t => bytesOf 2 t.day ++ bytesOf 4 (1000 * t.second + t.ms)

/-- 12.3: a fault record; `firstOut` marks the first-out. -/
def faultBytes (firstOut : Bool) (r : FaultRecord) : List Byte :=
  bytesOf 2 r.sequence ++ bytesOf 1 (flagBits [r.time.isSome, r.fault.restartValid, firstOut]) ++ recordTime r.time ++
    bytesOf 1 (groupCode r.fault.group) ++ bytesOf 1 (reasonCode r.fault.reason) ++ bytesOf 1 r.fault.subject ++
    bytesOf 1 (severityCode r.fault.severity) ++ signedBytes 4 r.fault.info

/-- 12.3: a notice. -/
def noticeBytes (n : Notice) : List Byte :=
  bytesOf 1 (noticeCode n.kind) ++ bytesOf 1 (flagBits [n.time.isSome]) ++ recordTime n.time ++ bytesOf 2 n.subject ++
    signedBytes 4 n.value

/-- 12.3, R199: the signed four-byte field of an energy of a settlement record. An energy that the field cannot hold is the spec's
silence: its bytes are then the free value `Config.wideEnergy` (the model's choice, DESIGN CHOICE, log entry 45). -/
def energyBytes (kWh : Int) : List Byte :=
  if -2147483648 ≤ kWh ∧ kWh ≤ 2147483647 then signedBytes 4 kWh else bytesOf 4 (Config.wideEnergy kWh).toNat

/-- 12.3, R199: a settlement record; metered net export and deviation are 0 where they are absent. Metered net export (R131, up to
2^32 - 1 either way) and deviation can pass their fields, on which the spec is silent: see `energyBytes` (log entry 45). -/
def settlementBytes (r : Settlement) : List Byte :=
  bytesOf 2 r.number ++ bytesOf 2 r.day ++ bytesOf 1 r.interval ++
    bytesOf 1 (flagBits [r.committed, r.cutShort, r.metered.isSome]) ++ signedBytes 2 r.power ++ energyBytes r.scheduled ++
    energyBytes r.reserve ++ energyBytes r.shortfall ++ energyBytes (r.metered.getD 0) ++ energyBytes (r.deviation.getD 0)

/-! ### Replies -/

/-- The bytes of a reply's content: the records of 12.3, the mode code of R200, and the counts that "Payload sizes" of chapter
12 gives; the rest is free (log entry 12). -/
def Content.bytes (c : Content) : List Byte :=
  match c with
  | .none => []
  | .mode m => bytesOf 1 (modeCode m)
  | .status r => bytesOf 1 (modeCode r.mode) ++ Config.unlaidBytes r
  | .intervals rs => rs.flatMap returnedIntervalBytes
  | .windows ws => windowsBytes 0 ws
  | .settlements count rs => bytesOf 1 count ++ rs.flatMap settlementBytes
  | .faults r => Config.unlaidBytes { r with records := [] } ++ r.records.flatMap fun x => faultBytes x.1 x.2
  | .notices returned left ns => bytesOf 1 returned ++ bytesOf 1 left ++ ns.flatMap noticeBytes
  | c => Config.unlaidBytes c

/-- R187: the payload of a reply opens with the status byte, and what the owning rule gives follows; no frame carries more
than 480 bytes (R185). -/
def Answer.payload (a : Answer) : List Byte :=
  (bytesOf 1 (statusCode a.status) ++ a.content.bytes).take Config.maxPayload

/-- R197: a reply frame as sent, with sync and CRC. -/
def Reply.bytes (r : Reply) : List Byte := frameBytes r.kind r.tag r.answer.payload

end Sys2Proof.Machine
end

