-- ==== Sys2Proof/Machine/Orders.lean ====
section
/-! DEFINITION. The order slots of the plant link and the two transmitters: placement (R179), the transmit list and the
arbiter (R180), and the station transmitter (R188). -/

namespace Sys2Proof.Machine

/-- The order slot of a destination (R179). -/
def Ck4.slot (p : Ck4) (d : Dest) : Slot :=
  match d with
  | .machine m => p.plantLink.machineSlots.get m
  | .vessel v => p.plantLink.vesselSlots.get v

/-- The order slot of a destination is replaced. -/
def Ck4.setSlot (p : Ck4) (d : Dest) (s : Slot) : Ck4 :=
  match d with
  | .machine m => { p with plantLink := { p.plantLink with machineSlots := p.plantLink.machineSlots.set m s } }
  | .vessel v => { p with plantLink := { p.plantLink with vesselSlots := p.plantLink.vesselSlots.set v s } }

/-- The thirteen destinations in the order C1 to E2, V0 to V7. -/
def allDests : List Dest := allMachines.map .machine ++ allVessels.map .vessel

/-- R179: the sequence after one: the ring 1 to 255, 0 never given. -/
def nextSequence (n : Nat) : Nat := if n ≥ 255 then 1 else n + 1

/-- R179: a slot takes a placement; `confirm` is the confirm timer it restarts at, or none while the PORT section does not
have a good CRC (R173). -/
def Slot.place (s : Slot) (o : Order) (confirm : Option Nat) : Slot :=
  { order := some o, sequence := some (nextSequence s.lastGiven), lastGiven := nextSequence s.lastGiven, status := .waiting,
    confirmTimer := confirm, repeatTimer := none, transmissions := 0 }

/-- R180: a slot becomes due; a slot that is in the list already keeps its place. -/
def enlist (list : List Dest) (d : Dest) : List Dest := if d ∈ list then list else list ++ [d]

/-- R179, R180: an order is placed for a destination. A frame of that slot in transmission is not altered, and its end does
not make the slot SENT. -/
def Ck4.place (p : Ck4) (d : Dest) (o : Order) : Ck4 :=
  let confirm := if p.good .port then some (1000 * p.orderConfirm) else none
  let q := p.setSlot d ((p.slot d).place o confirm)
  { q with plantLink := { q.plantLink with
      transmitList := enlist q.plantLink.transmitList d
      transmission := q.plantLink.transmission.map fun t => if t.dest = d then { t with replaced := true } else t } }

/-- Whether a source entry is that of a destination (R173). -/
def SourceEntry.serves (e : SourceEntry) (d : Dest) : Bool :=
  match d with
  | .machine .c1 => e.kind == .compressor && e.unit == 1
  | .machine .c2 => e.kind == .compressor && e.unit == 2
  | .machine .c3 => e.kind == .compressor && e.unit == 3
  | .machine .e1 => e.kind == .expander && e.unit == 1
  | .machine .e2 => e.kind == .expander && e.unit == 2
  | .vessel v => e.kind == .vessel && e.unit == vesselIndex v

/-- The index of a destination's source entry. -/
def Ck4.sourceIndexOf (p : Ck4) (d : Dest) : Nat := p.plantLink.sources.findIdx fun e => e.serves d

/-- The source entry of an index. -/
def Ck4.source (p : Ck4) (i : Nat) : SourceEntry := p.plantLink.sources.getD i .unassigned

/-- The source entry of an index is replaced. -/
def Ck4.setSource (p : Ck4) (i : Nat) (e : SourceEntry) : Ck4 :=
  { p with plantLink := { p.plantLink with sources := p.plantLink.sources.set i e } }

/-- 12.2: code of a route and the machine it names, 255 with NONE. -/
def routeBytes (r : Route) : List Byte :=
  match r with
  | .none => [0#8, 255#8]
  | .charge m => [1#8, BitVec.ofNat 8 (machineIndex m)]
  | .discharge m => [2#8, BitVec.ofNat 8 (machineIndex m)]

/-- R197, R198: the frame that carries an order to an address with a sequence. -/
def orderBytes (address seq : Nat) (o : Order) : List Byte :=
  match o with
  | .machine k sp =>
    frameBytes 0x60#8 0#8 (BitVec.ofNat 8 address :: BitVec.ofNat 8 seq :: BitVec.ofNat 8 (orderKindCode k) ::
      bytesOf 2 (if k = .load then sp else 0))
  | .route r => frameBytes 0x61#8 0#8 (BitVec.ofNat 8 address :: BitVec.ofNat 8 seq :: routeBytes r)

/-- R180: when the transmitter is idle and the list is not empty it takes the oldest slot and sends the order that slot holds
at that moment. While the PORT section does not have a good CRC nothing is sent (R173). -/
def Ck4.pumpOrders (p : Ck4) : Ck4 :=
  match p.plantLink.transmission, p.plantLink.transmitList with
  | none, d :: rest =>
    if p.good .port then
      match (p.slot d).order with
      | some o =>
        { p with plantLink := { p.plantLink with
            transmitList := rest
            transmission := some ⟨d, orderBytes (p.source (p.sourceIndexOf d)).address ((p.slot d).sequence.getD 0) o, false, false⟩ } }
      | none => { p with plantLink := { p.plantLink with transmitList := rest } }
    else p
  | _, _ => p

/-- R188: what the station transmitter takes when it is idle: the waiting BUSY reply first, then the reply of the head request.
A restart that waits for no reply is handed on before another frame is started (log entry 31). -/
def StationLink.nextFrame (l : StationLink) : Option (StationTx × Reply) :=
  if l.restartAsked && l.headReply.isNone then none
  else
    match l.busyReply, l.headReply with
    | some r, _ => some (.busy, r)
    | none, some r => some (.reply, r)
    | none, none => none

/-- R188, R197: when the station transmitter is idle it starts the frame it takes next. -/
def Ck4.pumpReplies (p : Ck4) : Ck4 :=
  match p.station.tx, p.station.nextFrame with
  | .idle, some (tx, r) => { p with station := { p.station with tx := tx, sending := some r.bytes } }
  | _, _ => p

end Sys2Proof.Machine
end

