-- ==== Sys2Proof/Machine/Schedule.lean ====
section
/-! DEFINITION. The schedule's records, gate closure, range checks and resolution (01_the_trading_schedule). -/

namespace Sys2Proof.Machine

/-! ### Pages -/

/-- R4: writable statuses. -/
def IntervalStatus.writable (s : IntervalStatus) : Bool := s == .empty || s == .indicative || s == .firm

/-- The record of an absolute interval index: CURRENT is 0 to 95, NEXT 96 to 191. -/
def Schedule.record (s : Schedule) (i : Nat) : IntervalRecord :=
  if i < 96 then s.currentPage.getD i .blank else s.nextPage.getD (i - 96) .blank

/-- The record of an absolute interval index is replaced. -/
def Schedule.setRecord (s : Schedule) (i : Nat) (r : IntervalRecord) : Schedule :=
  if i < 96 then { s with currentPage := s.currentPage.set i r } else { s with nextPage := s.nextPage.set (i - 96) r }

/-- R3: NEXT carries the day after CURRENT. The first absolute index of a day of the pages: 0 for the day of CURRENT, 96 for
the day of NEXT. -/
def Schedule.pageBase (s : Schedule) (day : Nat) : Option Nat :=
  match s.day with
  | none => none
  | some d => if day = d then some 0 else if day = d + 1 then some 96 else none

/-! ### Gate closure and page movements -/

/-- R6: gate closure fixes one record. -/
def IntervalRecord.close (r : IntervalRecord) : IntervalRecord :=
  match r.status with
  | .firm => { r with status := .locked, committed := true }
  | .empty => { r with status := .dropped }
  | .indicative => { r with status := .dropped }
  | _ => r

/-- R6: gate closure of the `n` intervals from absolute index `i`, in ascending order. -/
def Schedule.closeGate (s : Schedule) (i n : Nat) : Schedule :=
  match n with
  | 0 => s
  | n + 1 => (s.setRecord i (s.record i).close).closeGate (i + 1) n

/-- R5 step 1: the ACTIVE record of an interval becomes SETTLED. -/
def Schedule.settle (s : Schedule) (i : Nat) : Schedule := s.setRecord i { s.record i with status := .settled }

/-- R5 step 2: the record of an interval becomes ACTIVE and keeps its committed flag. -/
def Schedule.activate (s : Schedule) (i : Nat) : Schedule := s.setRecord i { s.record i with status := .active }

/-- R21: a window is re-indexed at a day rollover. -/
def Window.shift (w : Window) : Window :=
  if w.inUse then
    if w.last < 96 then .free else { w with first := w.first - 96, last := w.last - 96 }
  else w

/-- R7: the pages move by one day and the windows shift; the staging page is kept or discarded by its day (R17). -/
def Schedule.rollOver (s : Schedule) : Schedule :=
  { s with
    day := s.day.map (· + 1)
    currentPage := s.nextPage
    nextPage := emptyPage
    windows := s.windows.map Window.shift
    staging := s.staging.filter fun g => some g.day != s.day }

/-- R8, R17, R21: both pages are cleared, every window is freed and staging is discarded. -/
def Schedule.clear (s : Schedule) : Schedule :=
  { s with currentPage := emptyPage, nextPage := emptyPage, windows := List.replicate 16 .free, staging := none }

/-- R3: the first `k` records of CURRENT become SETTLED, with an EMPTY record's contents. -/
def Schedule.settleBefore (s : Schedule) (k : Nat) : Schedule :=
  match k with
  | 0 => s
  | k + 1 => (s.settleBefore k).setRecord k { IntervalRecord.blank with status := .settled }

/-- R3: the records from `i` on, `n` of them, become DROPPED with committed no. -/
def Schedule.dropFrom (s : Schedule) (i n : Nat) : Schedule :=
  match n with
  | 0 => s
  | n + 1 => (s.setRecord i { s.record i with status := .dropped, committed := false }).dropFrom (i + 1) n

/-- R3: the pages take day `day` and are brought to interval `k` under gate lead `lead`. -/
def Schedule.establish (s : Schedule) (day k lead : Nat) : Schedule :=
  let s1 := { s with day := some day }.settleBefore k
  let s2 := s1.setRecord k { s1.record k with status := .active, committed := false }
  s2.dropFrom (k + 1) lead

/-! ### Range checks (R9) -/

/-- R2: power lies in -32767 to 32767 and both bands in 0 to 32767. -/
def powerInRange (z : Int) : Bool := -32767 ≤ z && z ≤ 32767

/-- 12.3: the interval status of an offered status code; only EMPTY, INDICATIVE and FIRM may be offered (R9). -/
def offeredStatus (n : Nat) : Option IntervalStatus :=
  match n with
  | 0 => some .empty
  | 1 => some .indicative
  | 2 => some .firm
  | _ => none

/-- R9: the range check of an offered record, against the rating sums of the two directions. -/
def offerValid (o : OfferedRecord) (dischargeSum chargeSum : Nat) : Bool :=
  match offeredStatus o.status with
  | none => false
  | some .empty => o.power == 0 && o.up == 0 && o.down == 0
  | some _ =>
    powerInRange o.power && o.up ≤ 32767 && o.down ≤ 32767 &&
    if o.power > 0 then o.power.natAbs + o.up ≤ dischargeSum && o.down ≤ o.power.natAbs
    else if o.power < 0 then o.up ≤ o.power.natAbs && o.power.natAbs + o.down ≤ chargeSum
    else o.up == 0 && o.down == 0

/-- R9 over a whole request. -/
def Ck4.offersValid (p : Ck4) (os : List OfferedRecord) : Bool :=
  os.all fun o => offerValid o (p.ratingSum .discharge) (p.ratingSum .charge)

/-- R10, R14: a record takes the offered status, power, bands and trade reference, with committed no; one offered as EMPTY
becomes an EMPTY record, whose trade reference is absent (R2). -/
def writtenRecord (o : OfferedRecord) : IntervalRecord :=
  let status := (offeredStatus o.status).getD .empty
  ⟨o.power, o.up, o.down, false, status, if status == .empty then none else o.reference⟩

/-- R10: consecutive records from absolute index `i` are written. -/
def Schedule.write (s : Schedule) (i : Nat) (os : List OfferedRecord) : Schedule :=
  match os with
  | [] => s
  | o :: rest => (s.setRecord i (writtenRecord o)).write (i + 1) rest

/-- R14: consecutive records of a page are written from index `i`. -/
def writePage (page : List IntervalRecord) (i : Nat) (os : List OfferedRecord) : List IntervalRecord :=
  match os with
  | [] => page
  | o :: rest => writePage (page.set i (writtenRecord o)) (i + 1) rest

/-- The lowest of the `n` intervals from absolute index `i` for which a test holds. -/
def firstInterval (test : Nat → Bool) (i n : Nat) : Option Nat :=
  match n with
  | 0 => none
  | n + 1 => if test i then some i else firstInterval test (i + 1) n

/-- R11: the firm content of a record: its power and bands while it is FIRM. -/
def IntervalRecord.firmContent (r : IntervalRecord) : Option (Int × Nat × Nat) :=
  if r.status == .firm then some (r.power, r.up, r.down) else none

/-- R11: whether the firm content of some interval differs between two schedules, over `n` intervals from `i`. -/
def firmChanges (before after : Schedule) (i n : Nat) : Bool :=
  (firstInterval (fun j => (before.record j).firmContent != (after.record j).firmContent) i n).isSome

/-! ### Resolution (section 1.6) -/

/-- The resolved record of an interval: one power and two bands. -/
structure Resolved where
  power : Int
  up : Nat
  down : Nat
  deriving DecidableEq, Repr

/-- R18: whether an interval is covered by an in-use window. -/
def Window.covers (w : Window) (i : Nat) : Bool :=
  w.inUse && w.first ≤ i && i ≤ w.last && w.mask.testBit (i % 4)

/-- R22 step 1: the base under a mode. -/
def baseRecord (mode : Mode) (manualTarget : Int) (r : IntervalRecord) : Resolved :=
  match mode with
  | .auto => if r.committed || r.status == .firm then ⟨r.power, r.up, r.down⟩ else ⟨0, 0, 0⟩
  | .manual => ⟨manualTarget, 0, 0⟩
  | _ => ⟨0, 0, 0⟩

/-- R22 step 2: the lowest-indexed SETPOINT window that covers the interval replaces the power. -/
def applySetpoint (ws : List Window) (i : Nat) (r : Resolved) : Resolved :=
  match ws.find? fun w => w.kind == .setpoint && w.covers i with
  | some w => { r with power := w.value }
  | none => r

/-- R22 step 3: a magnitude is reduced to the least value of the covering caps of a kind. -/
def capMagnitude (ws : List Window) (kind : WindowKind) (i magnitude : Nat) : Nat :=
  (ws.filter fun w => w.kind == kind && w.covers i).foldl (fun acc w => min acc w.value.toNat) magnitude

/-- R22 step 3: the caps. -/
def applyCaps (ws : List Window) (i : Nat) (r : Resolved) : Resolved :=
  if r.power > 0 then { r with power := (capMagnitude ws .capDischarge i r.power.natAbs : Nat) }
  else if r.power < 0 then { r with power := -((capMagnitude ws .capCharge i r.power.natAbs : Nat) : Int) }
  else r

/-- R22 step 4: a covering BLOCK window makes power and bands 0. -/
def applyBlock (ws : List Window) (i : Nat) (r : Resolved) : Resolved :=
  if ws.any fun w => w.kind == .block && w.covers i then ⟨0, 0, 0⟩ else r

/-- R22: the resolved record of absolute interval `i` under a mode. -/
def resolve (s : Schedule) (manualTarget : Int) (mode : Mode) (i : Nat) : Resolved :=
  match mode with
  | .auto => applyBlock s.windows i (applyCaps s.windows i (applySetpoint s.windows i (baseRecord .auto manualTarget (s.record i))))
  | .manual => applyBlock s.windows i (applyCaps s.windows i (baseRecord .manual manualTarget (s.record i)))
  | _ => ⟨0, 0, 0⟩

/-- R23: dispatch resolution, under the mode in force. -/
def Ck4.dispatchResolution (p : Ck4) (i : Nat) : Resolved := resolve p.schedule p.dispatch.manualTarget p.mode i

/-- R23: projected resolution with active interval `a`: dispatch resolution for it, market resolution for every other. -/
def Ck4.projectedResolution (p : Ck4) (a i : Nat) : Resolved :=
  if i = a then p.dispatchResolution i else resolve p.schedule p.dispatch.manualTarget .auto i

end Sys2Proof.Machine
end

