-- ==== Sys2Proof/Machine/FaultTable.lean ====
section
/-! DEFINITION. Numbering and recording a fault (R137, R139, R140). The severity's action on machines stands in
Sys2Proof/Machine/Protection.lean; a fault without one is whole here. -/

namespace Sys2Proof.Machine

/-- R135: the enable of a group. -/
def GroupEnables.get (e : GroupEnables) (g : Group) : Bool :=
  match g with
  | .machC => e.machC
  | .machE => e.machE
  | .vessel => e.vessel
  | .cavern => e.cavern
  | .port => e.port
  | .lines => e.lines

/-- R138: the enable of a group takes a value. -/
def GroupEnables.set (e : GroupEnables) (g : Group) (b : Bool) : GroupEnables :=
  match g with
  | .machC => { e with machC := b }
  | .machE => { e with machE := b }
  | .vessel => { e with vessel := b }
  | .cavern => { e with cavern := b }
  | .port => { e with port := b }
  | .lines => { e with lines := b }

/-- A 16-bit number after another, wrapping from 65,535 to 0 (R130, R139). -/
def succ16 (n : Nat) : Nat := if n ≥ 65535 then 0 else n + 1

/-- R140: the value of FAULT_RECORDED. -/
def faultValue (seq : Nat) (f : FaultReport) : Nat :=
  65536 * seq + 256 * reasonCode f.reason + 16 * groupCode f.group + severityCode f.severity

/-- R139: the fault receives the next sequence number and is recorded, or the overflow flag is set. -/
def Protection.number (t : Protection) (time : Option PlantTime) (f : FaultReport) : Protection :=
  if t.table.length < Config.faultTableSize then
    { t with nextSequence := succ16 t.nextSequence, table := t.table ++ [⟨t.nextSequence, time, f⟩] }
  else { t with nextSequence := succ16 t.nextSequence, overflow := true }

/-- Steps 1 and 2 of R142 for a fault of an enabled group: the number, the record, and FAULT_RECORDED for a recorded fault. -/
def Ck4.numberFault (p : Ck4) (f : FaultReport) : Ck4 :=
  let q := { p with protection := p.protection.number p.stamp f }
  if p.protection.table.length < Config.faultTableSize then
    q.post .faultRecorded f.subject (faultValue p.protection.nextSequence f)
  else q

/-- R137, R142: a fault without an action on machines is handed to protection; a fault of a disabled group is discarded. -/
def Ck4.recordFault (p : Ck4) (f : FaultReport) : Ck4 :=
  if p.protection.enables.get f.group then p.numberFault f else p

end Sys2Proof.Machine
end

