-- ==== Sys2Proof/Machine/Heat.lean ====
section
/-! DEFINITION. The vessel figures (R57, R59, R60), eligibility (R66), the pooled figures (R62) and the tree (R67, R69). -/

namespace Sys2Proof.Machine

/-! ### Layers -/

/-- The nearest layer above marked valid: `seen` is the temperature of the nearest valid layer met so far. -/
def nearestAbove (seen : Option Int) (layers : List Int) (valid : List Bool) : List (Option Int) :=
  match layers, valid with
  | t :: ts, v :: vs => seen :: nearestAbove (if v then some t else seen) ts vs
  | _, _ => []

/-- R57: the temperature a layer uses, from its own, its valid flag, and the nearest valid layers above and below. -/
def substitute (t : Int) (valid : Bool) (above below : Option Int) : Int :=
  if valid then t else
    match above, below with
    | some a, some b => (a + b) / 2
    | some a, none => a
    | none, some b => b
    | none, none => t

/-- Four lists in step. -/
def substituteAll (ts : List Int) (vs : List Bool) (above below : List (Option Int)) : List Int :=
  match ts, vs, above, below with
  | t :: ts, v :: vs, a :: as, b :: bs => substitute t v a b :: substituteAll ts vs as bs
  | _, _, _, _ => []

/-- R57: invalid layers take substitutes made from the nearest layers marked valid. -/
def substituteLayers (layers : List Int) (valid : List Bool) : List Int :=
  substituteAll layers valid (nearestAbove none layers valid) (nearestAbove none layers.reverse valid.reverse).reverse

/-- R59: the heat of one layer. -/
def layerHeat (c10 : Nat) (tBase t : Int) : Nat := if t > tBase then c10 * (t - tBase).toNat / 100 else 0

/-- R59: the room of one layer. -/
def layerRoom (c10 : Nat) (tMax t : Int) : Nat := if t < tMax then c10 * (tMax - t).toNat / 100 else 0

/-- R59, R60: figures and class of a vessel from its layers, under the VESSELS constants. While that section has a bad CRC
they keep what they hold (R192). -/
def Ck4.withFigures (p : Ck4) (v : VesselId) (r : VesselRecord) : VesselRecord :=
  if p.good .vessels then
    let heats := r.layers.map fun t => layerHeat (p.c10 v) p.tBase t
    let usable := (r.layers.filter fun t => t ≥ p.tReheatMin).map fun t => layerHeat (p.c10 v) p.tBase t
    let rooms := r.layers.map fun t => layerRoom (p.c10 v) p.tChargeMax t
    let bottomFull : Bool := r.layers.getD 11 0 ≥ p.tFullBottom
    let out := r.condition == .degraded || !r.reported
    { r with
      stored := sumNat heats
      usable := if out then 0 else sumNat usable
      room := if out || bottomFull then 0 else sumNat rooms
      content := if !r.reported then .empty
        else if bottomFull then .full
        else if r.layers.getD 0 0 < p.tReheatMin then .empty
        else .partly }
  else r

/-! ### Eligibility and pooled figures -/

/-- R66: eligible for charging. -/
def Ck4.eligibleCharge (p : Ck4) (v : VesselId) : Bool :=
  let r := p.vessel v
  r.reported && r.condition == .normal && r.use == .free && r.content != .full && !p.allocator.freeze

/-- R66: eligible for discharge but for the hold rule. -/
def Ck4.dischargeCandidate (p : Ck4) (v : VesselId) : Bool :=
  let r := p.vessel v
  r.reported && r.condition == .normal && r.use == .free && r.content != .empty && !p.allocator.freeze

/-- R66: some vessel that is not held is eligible for discharge. -/
def Ck4.unheldEligible (p : Ck4) : Bool := allVessels.any fun v => p.dischargeCandidate v && !(p.vessel v).held

/-- R66: eligible for discharge, with the hold rule. -/
def Ck4.eligibleDischarge (p : Ck4) (v : VesselId) : Bool :=
  p.dischargeCandidate v && (!(p.vessel v).held || (!p.unheldEligible && p.allocator.reserve > 0))

/-- R62: a vessel counts in H_free or H_held while it is neither DEGRADED nor ISOLATED. -/
def VesselRecord.counts (r : VesselRecord) : Bool := r.condition == .normal && r.use != .isolated

/-- R62: H_free. -/
def Ck4.hFree (p : Ck4) : Nat :=
  sumNat (allVessels.map fun v => if (p.vessel v).counts && !(p.vessel v).held then (p.vessel v).usable else 0)

/-- R62: H_held. -/
def Ck4.hHeld (p : Ck4) : Nat :=
  sumNat (allVessels.map fun v => if (p.vessel v).counts && (p.vessel v).held then (p.vessel v).usable else 0)

/-- R62: H_room. -/
def Ck4.hRoom (p : Ck4) : Nat :=
  sumNat (allVessels.map fun v => if p.eligibleCharge v then (p.vessel v).room else 0)

/-- R62: a machine has a bound vessel in CHARGING or DISCHARGING, or a target in SWITCHING_IN. -/
def Ck4.servedByVessel (p : Ck4) (m : MachineId) : Bool :=
  allVessels.any fun v =>
    (p.vessel v).use == .charging m || (p.vessel v).use == .discharging m || (p.vessel v).use == .switchingIn m

/-- R62: discharge heat available. -/
def Ck4.dischargeHeat (p : Ck4) : Bool := allVessels.any p.eligibleDischarge || strings.any p.servedByVessel

/-- R62: charge heat available. -/
def Ck4.chargeHeat (p : Ck4) : Bool :=
  allVessels.any p.eligibleCharge || p.allocator.bypassPermitted || trains.any p.servedByVessel

/-! ### Choice of a vessel -/

/-- R67: one node of the walk: the pointed subtree when it has a choice, else the other one. -/
def walkNode (bit : Bool) (left right : Option VesselId) : Option VesselId :=
  if bit then right.or left else left.or right

/-- R67: a single vessel as a subtree. -/
def walkLeaf (eligible : VesselId → Bool) (v : VesselId) : Option VesselId := if eligible v then some v else none

/-- R67: the walk down the tree over the vessels eligible for charging. -/
def treeWalk (t : Tree) (eligible : VesselId → Bool) : Option VesselId :=
  walkNode t.b0
    (walkNode t.b1 (walkNode t.b3 (walkLeaf eligible .v0) (walkLeaf eligible .v1))
      (walkNode t.b4 (walkLeaf eligible .v2) (walkLeaf eligible .v3)))
    (walkNode t.b2 (walkNode t.b5 (walkLeaf eligible .v4) (walkLeaf eligible .v5))
      (walkNode t.b6 (walkLeaf eligible .v6) (walkLeaf eligible .v7)))

/-- R69: the bits on the path to the allocated vessel are set to point away from it. -/
def treeUpdate (t : Tree) (v : VesselId) : Tree :=
  match v with
  | .v0 => { t with b0 := true, b1 := true, b3 := true }
  | .v1 => { t with b0 := true, b1 := true, b3 := false }
  | .v2 => { t with b0 := true, b1 := false, b4 := true }
  | .v3 => { t with b0 := true, b1 := false, b4 := false }
  | .v4 => { t with b0 := false, b2 := true, b5 := true }
  | .v5 => { t with b0 := false, b2 := true, b5 := false }
  | .v6 => { t with b0 := false, b2 := false, b6 := true }
  | .v7 => { t with b0 := false, b2 := false, b6 := false }

/-- R68: the greatest usable heat, and the lowest index where it is shared. -/
def greatestHeat (heat : VesselId → Nat) (vs : List VesselId) : Option VesselId :=
  match vs with
  | [] => none
  | v :: rest =>
    match greatestHeat heat rest with
    | none => some v
    | some w => if heat w > heat v then some w else some v

/-- R67: the choice for charging. -/
def Ck4.chooseCharge (p : Ck4) : Option VesselId := treeWalk p.allocator.tree p.eligibleCharge

/-- R68: the choice for discharge. -/
def Ck4.chooseDischarge (p : Ck4) : Option VesselId :=
  greatestHeat (fun v => (p.vessel v).usable) (allVessels.filter p.eligibleDischarge)

/-- The choice of a direction (R70, R72). -/
def Ck4.choose (p : Ck4) (d : Dir) : Option VesselId :=
  match d with
  | .charge => p.chooseCharge
  | .discharge => p.chooseDischarge

end Sys2Proof.Machine
end

