-- ==== Sys2Proof/Machine/Inventory.lean ====
section
/-! DEFINITION. The cavern inventory: mass tracking, the pressure estimate, reconciliation, the limits and the projection
(02_cavern_inventory). A change of a margin flag is handed on in Sys2Proof/Machine/Records.lean. -/

namespace Sys2Proof.Machine

/-! ### Derived figures -/

/-- T10 of the held temperature (R31). -/
def Ck4.t10 (p : Ck4) : Option Nat := p.inventory.temperature.map fun t => (t + 2732).toNat

/-- m_at's numerator and denominator for a pressure: p × V × 10⁷ and G × T10 (02 section 2.2). -/
def Ck4.massAtNum (p : Ck4) (kPa : Nat) : Nat := kPa * p.volume * 10000000

/-- R40, R42: the limit masses, m_step and the rate limits, where a temperature is held. Figures of a section with a bad
CRC keep what they hold (R192). -/
def Ck4.refreshLimits (p : Ck4) : Ck4 :=
  match p.t10 with
  | none => p
  | some t =>
    if p.good .cavern then
      let den := p.gas * t
      let mStep := p.dpMax * p.volume * 10000000 / (den * 4)
      let inv := { p.inventory with
        mMin := ceilDiv (p.massAtNum p.pMin) den
        mMax := p.massAtNum p.pMax / den
        mStep := mStep }
      if p.good .energy then
        { p with inventory := { inv with
            pRateDis := mStep * p.yDis / 10000 / 25
            pRateChg := mStep * p.yChg / 10000 / 25 } }
      else { p with inventory := inv }
    else p

/-- R31: p_est, 0 while UNSEEDED or while no temperature is held. -/
def Ck4.estimate (p : Ck4) : Nat :=
  match p.t10 with
  | none => 0
  | some t =>
    if p.inventory.state == .unseeded then 0
    else saturate 65535 (nearestDiv (p.inventory.m * p.gas * t) (p.volume * 10000000))

/-- R31, R32, R41: p_est, the working masses and the margin flags. -/
def Ck4.refreshDerived (p : Ck4) : Ck4 :=
  if p.good .cavern then
    let unseeded := p.inventory.state == .unseeded
    let est := p.estimate
    { p with inventory := { p.inventory with
        pEst := est
        wDis := if unseeded then 0 else p.inventory.m - p.inventory.mMin
        wChg := if unseeded then 0 else p.inventory.mMax - p.inventory.m
        dischargeMargin := unseeded || est < p.pMin + p.pMargin
        chargeMargin := unseeded || est > p.pMax - p.pMargin } }
  else p

/-- R32: the margin flag of a direction. -/
def Ck4.marginReached (p : Ck4) (d : Dir) : Bool :=
  match d with
  | .charge => p.inventory.chargeMargin
  | .discharge => p.inventory.dischargeMargin

/-- R42: the pressure-rate power limit of a direction. -/
def Ck4.rateLimit (p : Ck4) (d : Dir) : Nat :=
  match d with
  | .charge => p.inventory.pRateChg
  | .discharge => p.inventory.pRateDis

/-! ### The projection (section 2.9) -/

/-- What a projection holds constant while it steps (R45). -/
structure ProjectionConstants where
  yDis : Nat
  yChg : Nat
  hDis : Nat
  hChg : Nat
  mMin : Nat
  mMax : Nat
  mStep : Nat
  held : Nat
  bypass : Bool
  deriving DecidableEq, Repr

/-- What a projection carries from interval to interval. -/
structure Projected where
  mass : Nat
  heat : Int
  room : Int
  first : Option (Nat × Violation)
  minMass : Nat
  maxMass : Nat
  deriving DecidableEq, Repr

/-- R50: the heat of an up band over a full interval. -/
def bandHeat (c : ProjectionConstants) (up : Nat) : Nat :=
  ceilDiv (ceilDiv (up * 25 * 10000) c.yDis * c.hDis) 10000

/-- R49: the first check of an interval that fails. -/
def checkInterval (c : ProjectionConstants) (heatRoom : Bool) (mass : Nat) (heat : Int) (moved : Nat) (r : Resolved) : Violation :=
  if heatRoom then .heatRoom
  else if mass < c.mMin then .massLow
  else if mass > c.mMax then .massHigh
  else if heat < 0 then .heatLow
  else if moved > c.mStep then .rate
  else if r.power > 0 && r.up > 0 && bandHeat c r.up > c.held then .heldHeat
  else .none

/-- R46 to R49: one interval of a projection; `seconds` is 900, or the seconds remaining for the active interval. -/
def projectInterval (c : ProjectionConstants) (st : Projected) (j seconds : Nat) (r : Resolved) : Projected :=
  let energy := ceilDiv (r.power.natAbs * 25 * seconds) 900
  let moved :=
    if r.power > 0 then ceilDiv (energy * 10000) c.yDis
    else if r.power < 0 then ceilDiv (energy * 10000) c.yChg
    else 0
  let need := ceilDiv (moved * c.hDis) 10000
  let made := ceilDiv (moved * c.hChg) 10000
  let excess : Bool := r.power < 0 && (made : Int) > st.room
  let mass :=
    if r.power > 0 then st.mass - moved
    else if r.power < 0 then saturate Config.massLimit (st.mass + moved)
    else st.mass
  let heat :=
    if r.power > 0 then st.heat - need
    else if r.power < 0 then (if excess then st.heat + st.room else st.heat + made)
    else st.heat
  let room :=
    if r.power > 0 then st.room + need
    else if r.power < 0 then (if excess then 0 else st.room - made)
    else st.room
  let kind := checkInterval c (excess && !c.bypass) mass heat moved r
  { mass := mass, heat := heat, room := room
    first := match st.first with
      | some f => some f
      | none => if kind = .none then none else some (j, kind)
    minMass := min st.minMass mass
    maxMass := max st.maxMass mass }

/-- R45: `n` intervals from `j` on, each at its resolved record. -/
def projectFrom (c : ProjectionConstants) (resolved : Nat → Resolved) (st : Projected) (j n : Nat) : Projected :=
  match n with
  | 0 => st
  | n + 1 => projectFrom c resolved (projectInterval c st j 900 (resolved j)) (j + 1) n

/-- R45, R51: the projection from active interval `a` with `seconds` of it remaining. While the ENERGY section has a bad CRC its
result is that of a power-on reset (R192; log entry 9). -/
def Ck4.project (p : Ck4) (a seconds : Nat) : ProjectionResult :=
  if p.inventory.state == .unseeded then
    { pass := false, first := a, kind := .notSeeded, minMass := 0, maxMass := 0, horizonMass := 0 }
  else if !p.good .energy then Inventory.powerOn.stored
  else
    let c : ProjectionConstants :=
      { yDis := p.yDis, yChg := p.yChg, hDis := p.hDis, hChg := p.hChg, mMin := p.inventory.mMin, mMax := p.inventory.mMax,
        mStep := p.inventory.mStep, held := p.hHeld, bypass := p.allocator.bypassPermitted }
    let start : Projected :=
      { mass := p.inventory.m, heat := p.hFree, room := p.hRoom, first := none, minMass := Config.massLimit, maxMass := 0 }
    let first := projectInterval c start a seconds (p.projectedResolution a a)
    let st := projectFrom c (p.projectedResolution a) first (a + 1) (191 - a)
    match st.first with
    | none =>
      { pass := true, first := 0, kind := .none, minMass := st.minMass, maxMass := st.maxMass, horizonMass := st.mass }
    | some (j, k) =>
      { pass := false, first := j, kind := k, minMass := st.minMass, maxMass := st.maxMass, horizonMass := st.mass }

/-- The value pair of SHORTFALL (R19, R52). -/
def Ck4.postShortfall (p : Ck4) (r : ProjectionResult) : Ck4 := p.post .shortfall r.first (violationCode r.kind)

/-- R52: a result is stored; a failing result stored over a pass posts SHORTFALL. -/
def Ck4.storeProjection (p : Ck4) (r : ProjectionResult) : Ck4 :=
  let q := { p with inventory := { p.inventory with stored := r } }
  if p.inventory.stored.pass && !r.pass then q.postShortfall r else q

/-- R44: a projection is run at the present moment and stored; while plant time is not valid it is not run. -/
def Ck4.runProjection (p : Ck4) : Ck4 :=
  match p.active with
  | none => p
  | some a => p.storeProjection (p.project a p.remaining)

/-- R44, R46: the boundary projection, which finds 900 seconds remaining in interval `k`. -/
def Ck4.runBoundaryProjection (p : Ck4) (k : Nat) : Ck4 := p.storeProjection (p.project k 900)

/-! ### Admission (R12) -/

/-- R12: the proposal's result and whether the change is admitted. -/
def Ck4.admission (p : Ck4) (proposed : Schedule) : Bool × ProjectionResult :=
  match p.active with
  | none => (false, p.inventory.stored)
  | some a =>
    let baseline := p.project a p.remaining
    let proposal := Ck4.project { p with schedule := proposed } a p.remaining
    (proposal.pass || (!baseline.pass && proposal.first ≥ baseline.first), proposal)

/-! ### Totalisers (R27 to R29) -/

/-- R28: the TOTALISER fault. -/
def totaliserFault (m : MachineId) (d : Nat) : FaultReport :=
  ⟨.cavern, .totaliser, machineIndex m, (saturate 2147483647 d : Nat), .warn, true⟩

/-- R29: an accepted difference is applied to m, but in UNSEEDED. -/
def Ck4.applyDifference (p : Ck4) (m : MachineId) (d : Nat) : Ck4 :=
  if p.inventory.state == .unseeded then p
  else
    let mass :=
      match machineDir m with
      | .charge => saturate Config.massLimit (p.inventory.m + d)
      | .discharge => p.inventory.m - d
    Ck4.refreshDerived { p with inventory := { p.inventory with m := mass } }

/-- R27: the record's totaliser is differenced against the machine's baseline. -/
def Ck4.takeTotaliser (p : Ck4) (m : MachineId) (t : Nat) : Ck4 :=
  let q := { p with inventory := { p.inventory with baseline := p.inventory.baseline.set m (some t) } }
  match p.inventory.baseline.get m with
  | none => q
  | some b =>
    let d := (t + 4294967296 - b) % 4294967296
    if d > p.maxStep then q.recordFault (totaliserFault m d) else q.applyDifference m d

/-! ### Cavern records (R30 to R39) -/

/-- R38: the exit from FROZEN, at the next accepted cavern record. -/
def Ck4.endFrozen (p : Ck4) : Ck4 :=
  if p.inventory.state == .frozen then { p with inventory := { p.inventory with state := p.inventory.resume } } else p

/-- R31: the TEMP_RANGE fault. -/
def tempRangeFault (source : Nat) (t : Int) : FaultReport := ⟨.cavern, .tempRange, source, t, .warn, true⟩

/-- R31: the record's temperature, where it is marked valid: held when it lies in range, rejected with a fault otherwise. -/
def Ck4.takeTemperature (p : Ck4) (source : Nat) (t : Option Int) : Ck4 :=
  match t with
  | none => p
  | some t =>
    if -400 ≤ t && t ≤ 1200 then
      Ck4.refreshDerived (Ck4.refreshLimits { p with inventory := { p.inventory with temperature := some t } })
    else p.recordFault (tempRangeFault source t)

/-- R34, R37: m from a measured pressure. -/
def Ck4.massFrom (p : Ck4) (t10 kPa : Nat) : Nat :=
  saturate Config.massLimit (nearestDiv (p.massAtNum kPa) (p.gas * t10))

/-- R34: the first seed, where a temperature is held and the CAVERN section gives values (log entry 9). -/
def Ck4.seed (p : Ck4) (kPa : Nat) : Ck4 :=
  let q := { p with inventory := { p.inventory with lastPressure := some kPa } }
  match p.t10 with
  | none => q
  | some t =>
    if p.good .cavern then
      let r := { q with inventory := { q.inventory with
        m := p.massFrom t kPa, drift := 0, state := .reseeded, residual := 0 } }
      (r.post .inventoryReseeded 0 kPa).runProjection
    else q

/-- R37: the DISCREPANCY fault. -/
def discrepancyFault (source : Nat) (r : Int) : FaultReport := ⟨.cavern, .discrepancy, source, r, .warn, true⟩

/-- R37: a reseed. -/
def Ck4.reseed (p : Ck4) (source t10 kPa : Nat) (r : Int) : Ck4 :=
  let q := { p with inventory := { p.inventory with m := p.massFrom t10 kPa, drift := 0, state := .reseeded } }
  ((q.recordFault (discrepancyFault source r)).post .inventoryReseeded 1 kPa).runProjection

/-- R35: m is corrected toward the measurement. -/
def correctedMass (m dm : Nat) (r : Int) : Nat := if r < 0 then m - dm else saturate Config.massLimit (m + dm)

/-- R33, R35, R36: a valid pressure in a seeded state. -/
def Ck4.reconcile (p : Ck4) (source t10 kPa : Nat) : Ck4 :=
  let r : Int := (kPa : Int) - p.inventory.pEst
  let q := { p with inventory := { p.inventory with residual := r, lastPressure := some kPa } }
  if r.natAbs ≤ p.tol then
    let dm := p.massAtNum r.natAbs / (p.gas * t10) / 2 ^ p.shiftK
    { q with inventory := { q.inventory with m := correctedMass p.inventory.m dm r, drift := 0, state := .tracking } }
  else
    let drift := p.inventory.drift + 1
    let state := if p.inventory.state == .reseeded then .reseeded else .drifting
    let q1 := { q with inventory := { q.inventory with drift := drift, state := state } }
    if drift ≥ p.nDrift then q1.reseed source t10 kPa r else q1

/-- R30 step 3: a valid pressure seeds or reconciles; a pressure marked not valid changes nothing (R39). -/
def Ck4.takePressure (p : Ck4) (source : Nat) (kPa : Option Nat) : Ck4 :=
  match kPa with
  | none => p
  | some kPa =>
    if p.inventory.state == .unseeded then p.seed kPa
    else
      match p.t10 with
      | none => { p with inventory := { p.inventory with lastPressure := some kPa } }
      | some t => p.reconcile source t kPa

/-- R38: the plant link reports the cavern source STALE or LOST. -/
def Ck4.freezeInventory (p : Ck4) : Ck4 :=
  match p.inventory.state with
  | .tracking => { p with inventory := { p.inventory with state := .frozen, resume := .tracking } }
  | .drifting => { p with inventory := { p.inventory with state := .frozen, resume := .drifting } }
  | .reseeded => { p with inventory := { p.inventory with state := .frozen, resume := .reseeded } }
  | .unseeded => p
  | .frozen => p

/-! ### Energy availability (R43) -/

/-- R43: the energy figures are 0 in UNSEEDED, and keep that value while the ENERGY section has a bad CRC (R192). -/
def Ck4.energyAbsent (p : Ck4) : Bool := p.inventory.state == .unseeded || !p.good .energy

/-- R43: E_dis. -/
def Ck4.energyDischarge (p : Ck4) : Nat :=
  if p.energyAbsent then 0
  else min p.inventory.wDis (p.hFree * 10000 / p.hDis) * p.yDis / 10000

/-- R43: E_chg; with bypass permitted the room does not limit it. -/
def Ck4.energyCharge (p : Ck4) : Nat :=
  if p.energyAbsent then 0
  else if p.allocator.bypassPermitted then p.inventory.wChg * p.yChg / 10000
  else min p.inventory.wChg (p.hRoom * 10000 / p.hChg) * p.yChg / 10000

end Sys2Proof.Machine
end

