-- ==== Sys2Proof/Machine/Allocator.lean ====
section
/-! DEFINITION. The allocator's own operations: targets and releases (R69, R70, R72), the end of bindings on a machine's
transition (R77), and a vessel becoming eligible (R73, R76). What needs the sequencer stands in
Sys2Proof/Machine/Switchover.lean. -/

namespace Sys2Proof.Machine

/-- The route that serves a machine (03 opening, R70). -/
def routeFor (m : MachineId) : Route :=
  match machineDir m with
  | .charge => .charge m
  | .discharge => .discharge m

/-- The use state of a vessel bound to a machine with its route established (R61). -/
def boundUse (m : MachineId) : UseState :=
  match machineDir m with
  | .charge => .charging m
  | .discharge => .discharging m

/-- R61: engaged. -/
def UseState.engaged (u : UseState) : Bool :=
  match u with
  | .free => false
  | .isolated => false
  | _ => true

/-- A vessel takes a use state. -/
def Ck4.setUse (p : Ck4) (v : VesselId) (u : UseState) : Ck4 := p.setVessel v { p.vessel v with use := u }

/-- A vessel is sent route NONE and becomes FREE. -/
def Ck4.freeVessel (p : Ck4) (v : VesselId) : Ck4 := (p.place (.vessel v) (.route .none)).setUse v .free

/-- The vessel of an optional place of a binding is sent route NONE and becomes FREE. -/
def Ck4.freeVessel? (p : Ck4) (v : Option VesselId) : Ck4 :=
  match v with
  | none => p
  | some v => p.freeVessel v

/-- R69, R70, R72: vessel `v` becomes the target of machine `m` under a cause: SWITCHING_IN, its route ordered, the tree
updated, the switchover timer started. A bound vessel becomes SWITCHING_OUT. -/
def Ck4.allocate (p : Ck4) (m : MachineId) (v : VesselId) (cause : SwitchCause) : Ck4 :=
  let b := p.binding m
  let q := match b.bound with
    | none => p
    | some w => p.setUse w (.switchingOut m)
  let r := (q.setUse v (.switchingIn m)).place (.vessel v) (.route (routeFor m))
  let r := r.setBinding m { b with target := some v, cause := some cause, timer := some (1000 * p.switchLimit) }
  { r with allocator := { r.allocator with tree := treeUpdate r.allocator.tree v } }

/-- R71, R80: how VESSEL_SWITCHED names what a machine had: a vessel's index, 8 for bypass, 15 for none. -/
def Binding.oldCode (b : Binding) : Nat :=
  match b.bound with
  | some v => vesselIndex v
  | none => if b.bypass then 8 else 15

/-- R71: VESSEL_SWITCHED. -/
def Ck4.postSwitched (p : Ck4) (m : MachineId) (old new : Nat) : Ck4 := p.post .vesselSwitched (machineIndex m) (16 * old + new : Nat)

/-- R70, R74, R75: a train passes to bypass; its bound vessel, if any, is released. -/
def Ck4.enterBypass (p : Ck4) (m : MachineId) : Ck4 :=
  let b := p.binding m
  let q := p.freeVessel? b.bound
  (q.setBinding m { b with bound := none, bypass := true }).postSwitched m b.oldCode 8

/-- The allocator's answer to a request for a vessel (R70). -/
inductive VesselAnswer where
  | target | bypass | noVessel
  deriving DecidableEq, Repr

/-- R70: the sequencer asks for a vessel for a machine that is to load. -/
def Ck4.requestVessel (p : Ck4) (m : MachineId) : VesselAnswer × Ck4 :=
  match p.choose (machineDir m) with
  | some v => (.target, p.allocate m v .load)
  | none =>
    if machineDir m = .charge && p.allocator.bypassPermitted then (.bypass, p.enterBypass m)
    else (.noVessel, p)

/-- R73: the release of one string from a held vessel, the string of lower index first, where a vessel can take it over. -/
def Ck4.releaseHeld (p : Ck4) : Ck4 :=
  let wants (m : MachineId) : Bool :=
    (p.mach m).state == .loaded && (p.binding m).target.isNone &&
      match (p.binding m).bound with
      | some v => (p.vessel v).use == .discharging m && (p.vessel v).held
      | none => false
  match strings.find? wants, p.chooseDischarge with
  | some m, some v => p.allocate m v .release
  | _, _ => p

/-- R76: one charge allocation for a train in LOADED and in bypass with no target in flight. -/
def Ck4.exitBypass (p : Ck4) (m : MachineId) : Ck4 :=
  if (p.mach m).state == .loaded && (p.binding m).bypass && (p.binding m).target.isNone then
    match p.chooseCharge with
    | some v => p.allocate m v .bypassExit
    | none => p
  else p

/-- R73: what follows when vessel `v` has become eligible for discharge. The event is the vessel's becoming eligible: it is a trigger
also where an earlier one of the same step has taken `v` itself, and finds whatever vessel is eligible then. -/
def Ck4.takeDischargeEligible (p : Ck4) (v : VesselId) : Ck4 :=
  if !(p.vessel v).held && p.allocator.reserve ≤ 0 then p.releaseHeld else p

/-- R73, R76: every vessel that has become eligible since `before` is taken: for charging by the trains in bypass in index
order, then for discharge by the strings on held vessels, one for each vessel (log entry 15). -/
def Ck4.takeEligible (before p : Ck4) : Ck4 :=
  let q := if allVessels.any fun v => !before.eligibleCharge v && p.eligibleCharge v then trains.foldl Ck4.exitBypass p else p
  let fresh := allVessels.filter fun v => !before.eligibleDischarge v && p.eligibleDischarge v
  fresh.foldl Ck4.takeDischargeEligible q

/-! ### The end of a binding (R77) -/

/-- R77: a machine's target and, in a switchover, its bound vessel are released, and bypass ends. The rule sends both route NONE
without an order between them: the target's order is placed first, then the bound vessel's (the model's choice, log entry 46). -/
def Ck4.abandonTarget (p : Ck4) (m : MachineId) (withBound : Bool) : Ck4 :=
  let b := p.binding m
  let q := p.freeVessel? b.target
  let r := if withBound then q.freeVessel? b.bound else q
  r.setBinding m { b with target := none, timer := none, bound := if withBound then none else b.bound,
                          bypass := if withBound then false else b.bypass }

/-- R77: bypass ends. -/
def Ck4.endBypass (p : Ck4) (m : MachineId) : Ck4 := p.setBinding m { p.binding m with bypass := false }

/-- R77: the bound vessel is released. -/
def Ck4.releaseBound (p : Ck4) (m : MachineId) : Ck4 :=
  let b := p.binding m
  (p.freeVessel? b.bound).setBinding m { b with bound := none }

/-- R77: the effect of a machine's transition on its vessels. -/
def Ck4.endBindings (p : Ck4) (m : MachineId) (old new : MachineState) : Ck4 :=
  let flight := (p.binding m).target.isSome
  let p1 :=
    if flight && old == .loading && new != .loaded then p.abandonTarget m false
    else if flight && (old == .loaded || new == .tripped) then p.abandonTarget m true
    else p
  let p2 := if old == .loaded || (old == .loading && new != .loaded) then p1.endBypass m else p1
  if new == .idle || new == .stopped || new == .lockedOut then p2.releaseBound m else p2

end Sys2Proof.Machine
end

