-- ==== Sys2Proof/Machine/Sequencer.lean ====
section
/-! DEFINITION. The sequencer's transitions (R106), load attempts and first LOADs (R87, R88), the ways out of LOADING and
LOADED (R89, R91), lingering (R93), and the trip command (R97). -/

namespace Sys2Proof.Machine

/-! ### Orders (R83) -/

/-- R83: an order is placed for a machine. -/
def Ck4.placeMachine (p : Ck4) (m : MachineId) (k : OrderKind) (sp : Nat) : Ck4 :=
  let n := if k = .load then sp else 0
  let q := p.setMach m { p.mach m with phase := ⟨some k, n, false⟩, setpoint := n }
  q.place (.machine m) (.machine k n)

/-- R83: the standing order of a machine that is not LOADED or LOADING. -/
def standingKind (s : MachineState) : OrderKind :=
  match s with
  | .stopped => .stop
  | .starting => .start
  | .idle => .unload
  | .loading => .unload
  | .loaded => .load
  | .unloading => .unload
  | .stopping => .stop
  | .tripped => .trip
  | .lockedOut => .trip

/-- R89, R96: the first LOAD of a machine in LOADING has been placed, as the order phase shows. -/
def MachineRecord.firstLoadPlaced (r : MachineRecord) : Bool := r.phase.kind == some .load

/-- R83: the kind of a machine's standing order. -/
def MachineRecord.standing (r : MachineRecord) : OrderKind :=
  if r.state == .loading && r.firstLoadPlaced then .load else standingKind r.state

/-! ### Transitions (R106) -/

/-- R117: dispatch follows a transition of machine `m` between two states; `p` already holds the new one. The dwell is the one
in use since the last cycle (R112). -/
def Ck4.followDwell (p : Ck4) (m : MachineId) (old new : MachineState) : Ck4 :=
  let d := machineDir m
  if inService old && !inService new && !p.dirInService d then
    { p with dispatch := { p.dispatch with
        dwell := if p.dispatchDwell = 0 then none else some ⟨1000 * p.dispatchDwell, otherDir d⟩ } }
  else if !inService old && inService new then
    match p.dispatch.dwell with
    | some t => if t.blocked = otherDir d then { p with dispatch := { p.dispatch with dwell := none } } else p
    | none => p
  else p

/-- R106: the value of MACHINE_STATE. -/
def transitionValue (old new : MachineState) (c : Cause) : Nat :=
  65536 * machineStateCode old + 256 * machineStateCode new + causeCode c

/-- R106: the machine record after a transition. The start timer stops on leaving STARTING (R86), the linger timer on
leaving IDLE (R93), load pending on leaving LOADING (R89); a transition ends an episode of correction (R103; log entry 19). -/
def MachineRecord.move (r : MachineRecord) (new : MachineState) (c : Cause) (t : Option PlantTime) : MachineRecord :=
  { r with
    state := new
    last := ⟨r.state, new, c, t⟩
    startTimer := if r.state == .starting then none else r.startTimer
    lingerTimer := if r.state == .idle then none else r.lingerTimer
    loadPending := if r.state == .loading then false else r.loadPending
    correcting := false }

/-- R109: a save of the counters is asked for. -/
def Ck4.askSave (p : Ck4) : Ck4 := { p with sequencer := { p.sequencer with saveAsked := true } }

/-- R106: a transition is recorded, handed to the allocator (R77) and to dispatch (R117), and posted; an entry into STOPPED
asks for a save of the counters (R109). Vessels it releases are then taken as they become eligible (R73, R76). -/
def Ck4.transition (p : Ck4) (m : MachineId) (new : MachineState) (c : Cause) : Ck4 :=
  let old := (p.mach m).state
  let p1 := p.setMach m ((p.mach m).move new c p.stamp)
  let p2 := p1.endBindings m old new
  let p3 := p2.followDwell m old new
  let p4 := p3.post .machineState (machineIndex m) (transitionValue old new c : Nat)
  let p5 := if new == .stopped then p4.askSave else p4
  Ck4.takeEligible p p5

/-- A transition whose entry places an order. -/
def Ck4.transitionOrder (p : Ck4) (m : MachineId) (new : MachineState) (c : Cause) (k : OrderKind) : Ck4 :=
  (p.transition m new c).placeMachine m k 0

/-! ### Loading (section 4.4) -/

/-- R88: the ordered setpoints of the other machines of `m`'s direction in LOADING or LOADED. -/
def Ck4.othersOrdered (p : Ck4) (m : MachineId) : Nat :=
  sumNat (((machinesOf (machineDir m)).filter fun n => n != m && ((p.mach n).state == .loading || (p.mach n).state == .loaded)).map
    fun n => (p.mach n).setpoint)

/-- R88 check 2: the headroom of the direction. -/
def Ck4.headroomCheck (p : Ck4) (m : MachineId) : Ck4 :=
  if p.minPower m + p.othersOrdered m ≤ p.rateLimit (machineDir m) then
    (p.setMach m { p.mach m with loadPending := false }).placeMachine m .load (p.minPower m)
  else p.setMach m { p.mach m with loadPending := true }

/-- R118: the dwell permit of a direction. -/
def Ck4.permit (p : Ck4) (d : Dir) : Bool :=
  match d with
  | .charge => p.dispatch.permitCharge
  | .discharge => p.dispatch.permitDischarge

/-- R87: the three checks of a load attempt. -/
def Ck4.mayLoad (p : Ck4) (m : MachineId) : Bool :=
  p.running && !p.dirInService (otherDir (machineDir m)) && p.permit (machineDir m) && !p.marginReached (machineDir m)

/-- R87: a load attempt of a machine in IDLE with demand SERVE. A bypass answer takes the first LOAD at once (R88; the
reheat check is a string's). -/
def Ck4.loadAttempt (p : Ck4) (m : MachineId) : Ck4 :=
  if (p.mach m).state == .idle && (p.mach m).demand == .serve && p.mayLoad m then
    match p.requestVessel m with
    | (.target, q) => q.transition m .loading .loadDemand
    | (.bypass, q) => (q.transition m .loading .loadDemand).headroomCheck m
    | (.noVessel, q) => q
  else p

/-- R93: a machine in IDLE with demand NONE is stopped. -/
def Ck4.linger (p : Ck4) (m : MachineId) : Ck4 :=
  if p.running then
    if p.idleLinger = 0 then p.transitionOrder m .stopping .linger .stop
    else p.setMach m { p.mach m with lingerTimer := some (1000 * p.idleLinger) }
  else p.transitionOrder m .stopping .mode .stop

/-- R87, R93: what a machine does on entry to IDLE. -/
def Ck4.enterIdle (p : Ck4) (m : MachineId) : Ck4 :=
  if (p.mach m).demand == .serve then p.loadAttempt m else p.linger m

/-- A transition into IDLE with what follows it (R87, R93). The model's choice (log entry 16): a machine that leaves LOADING with
demand SERVE makes its attempt at once (R87, on entry to IDLE), and not only at the next dispatch cycle (R89). -/
def Ck4.toIdle (p : Ck4) (m : MachineId) (c : Cause) : Ck4 := (p.transition m .idle c).enterIdle m

/-- R88: the allocator reports the route of a machine in LOADING established. -/
def Ck4.routeReady (p : Ck4) (m : MachineId) : Ck4 :=
  let cold : Bool :=
    machineDir m == .discharge &&
      match (p.binding m).bound with
      | some v => (p.vessel v).layers.getD 0 0 < p.tReheatMin
      | none => false
  if cold then p.toIdle m .reheatLow else p.headroomCheck m

/-- R89: a machine in LOADING leaves it without loading. -/
def Ck4.leaveLoading (p : Ck4) (m : MachineId) (c : Cause) : Ck4 :=
  if (p.mach m).state == .loading then
    if (p.mach m).firstLoadPlaced then p.transitionOrder m .unloading c .unload else p.toIdle m c
  else p

/-- R91: an unload request for a machine. -/
def Ck4.unloadRequest (p : Ck4) (m : MachineId) (c : Cause) : Ck4 :=
  match (p.mach m).state with
  | .loaded => p.transitionOrder m .unloading c .unload
  | .loading => p.leaveLoading m c
  | _ => p

/-- Each machine of a list that is in a state is taken by an operation, in turn. -/
def Ck4.eachIn (p : Ck4) (ms : List MachineId) (s : MachineState) (f : Ck4 → MachineId → Ck4) : Ck4 :=
  ms.foldl (fun q m => if (q.mach m).state == s then f q m else q) p

/-- R92: a margin flag of a direction becomes reached. The order among its machines is the model's choice (log entry 40): those
in LOADED before those in LOADING, each in index order. -/
def Ck4.marginUnload (p : Ck4) (d : Dir) : Ck4 :=
  (p.eachIn (machinesOf d) .loaded fun q m => q.unloadRequest m .margin).eachIn (machinesOf d) .loading
    fun q m => q.leaveLoading m .margin

/-- R32, R92: each margin flag that `before` held not reached and `p` holds reached is handed to the sequencer; where both are,
the discharge margin first (the model's choice, log entry 40). -/
def Ck4.handMargins (before p : Ck4) : Ck4 :=
  let q := if !before.inventory.dischargeMargin && p.inventory.dischargeMargin then p.marginUnload .discharge else p
  if !before.inventory.chargeMargin && p.inventory.chargeMargin then q.marginUnload .charge else q

/-! ### Plant modes (R95) -/

/-- R95: every demand becomes NONE. -/
def Ck4.clearDemands (p : Ck4) : Ck4 :=
  allMachines.foldl (fun q m => q.setMach m { q.mach m with demand := .none }) p

/-- R95: the change to STANDBY. The order among the machines is the model's choice (log entry 40): every machine in LOADED, then
every one in LOADING, then every one in IDLE, each in index order. -/
def Ck4.standDown (p : Ck4) : Ck4 :=
  let p1 := allMachines.foldl (fun q m => q.setMach m { q.mach m with loadPending := false }) p.clearDemands
  let p2 := p1.eachIn allMachines .loaded fun q m => q.unloadRequest m .mode
  let p3 := p2.eachIn allMachines .loading fun q m => q.leaveLoading m .mode
  p3.eachIn allMachines .idle fun q m => q.transitionOrder m .stopping .mode .stop

/-- The plant mode takes a value. -/
def Ck4.setModeField (p : Ck4) (n : Mode) : Ck4 := { p with constants := { p.constants with mode := n } }

/-- R95, R129, R194: a change of the plant mode, handed to the sequencer and to dispatch. -/
def Ck4.changeMode (p : Ck4) (n : Mode) : Ck4 :=
  let q := p.setModeField n
  match n with
  | .standby => q.standDown
  | .shutdown => q.clearDemands
  | .manual => if p.mode = .manual then q else { q with dispatch := { q.dispatch with manualTarget := 0 } }
  | _ => q

/-! ### Trips (section 4.6) -/

/-- R97: the trip flags of a machine that enters TRIPPED. -/
def MachineRecord.trip (r : MachineRecord) (restartValid fromStopped : Bool) : MachineRecord :=
  { r with
    demand := .none
    startTimer := none
    lingerTimer := none
    loadPending := false
    correcting := false
    controllerTripHanded := false
    stoppedSinceTrip := false
    acknowledged := false
    lockoutPending := !restartValid
    counters := if fromStopped then r.counters
      else { r.counters with trips := saturate 4294967295 (r.counters.trips + 1) } }

/-- R97: the trip command. -/
def Ck4.tripCommand (p : Ck4) (restartValid : Bool) (m : MachineId) : Ck4 :=
  match (p.mach m).state with
  | .lockedOut => p
  | .tripped =>
    let r := p.mach m
    let q := p.setMach m { r with acknowledged := false, lockoutPending := r.lockoutPending || !restartValid }
    if r.stoppedSinceTrip && (r.lockoutPending || !restartValid) then q.transition m .lockedOut .lockout else q
  | s =>
    let q := p.transitionOrder m .tripped .trip .trip
    q.setMach m ((q.mach m).trip restartValid (s == .stopped))

/-! ### Selection (section 4.9, R84, R94) -/

/-- R108: EOH. -/
def Ck4.eoh (p : Ck4) (m : MachineId) : Nat :=
  let c := (p.mach m).counters
  c.runSeconds + c.starts * p.startPenalty + c.trips * p.tripPenalty

/-- R84: the machine of lowest EOH, and of lower index where it is equal; the list is in index order. -/
def lowestEoh (eoh : MachineId → Nat) (ms : List MachineId) : Option MachineId :=
  match ms with
  | [] => none
  | m :: rest =>
    match lowestEoh eoh rest with
    | none => some m
    | some n => if eoh n < eoh m then some n else some m

/-- R94, R125: the machine of highest EOH, and of higher index where it is equal; the list is in index order. -/
def highestEoh (eoh : MachineId → Nat) (ms : List MachineId) : Option MachineId :=
  match ms with
  | [] => none
  | m :: rest =>
    match highestEoh eoh rest with
    | none => some m
    | some n => if eoh n ≥ eoh m then some n else some m

/-- R85: the four start conditions. -/
def Ck4.mayStart (p : Ck4) (m : MachineId) : Bool :=
  p.running && !p.protection.tripInProgress && p.unassignedOrActive (.breaker m) && (p.mach m).source == .fresh

/-- R85: a start. -/
def Ck4.start (p : Ck4) (m : MachineId) : Ck4 :=
  let q := p.transition m .starting .startDemand
  let r := q.mach m
  let q := q.setMach m { r with
    demand := .serve
    startTimer := some (1000 * p.startLimit m)
    startFailed := false
    correcting := false
    controllerTripHanded := false
    counters := { r.counters with starts := saturate 4294967295 (r.counters.starts + 1) } }
  q.placeMachine m .start 0

/-- R84: one more machine of a direction; the answer is the machine served, or none. -/
def Ck4.oneMore (p : Ck4) (d : Dir) : Option MachineId × Ck4 :=
  let idle := (machinesOf d).filter fun m => (p.mach m).state == .idle && (p.mach m).demand == .none
  match lowestEoh p.eoh idle with
  | some m => (some m, p.setMach m { p.mach m with demand := .serve, lingerTimer := none })
  | none =>
    match lowestEoh p.eoh ((machinesOf d).filter fun m => (p.mach m).state == .stopped && p.mayStart m) with
    | some m => (some m, p.start m)
    | none => (none, p)

/-- R94: the machine that a shed of a direction takes. -/
def Ck4.shedCandidate (p : Ck4) (d : Dir) : Option MachineId :=
  highestEoh p.eoh ((machinesOf d).filter fun m => (p.mach m).state == .loaded)

/-- R94: a machine is shed. -/
def Ck4.shed (p : Ck4) (m : MachineId) : Ck4 :=
  (p.setMach m { p.mach m with demand := .none }).unloadRequest m .shed

/-- R90: a setpoint handed for a machine. -/
def Ck4.handSetpoint (p : Ck4) (m : MachineId) (sp : Nat) : Ck4 :=
  if (p.mach m).state == .loaded && (p.mach m).setpoint != sp then p.placeMachine m .load sp else p

end Sys2Proof.Machine
end

