-- ==== Sys2Proof/Machine/Switchover.lean ====
section
/-! DEFINITION. Switchover: triggers (R72, R75), targets given up (R74), routes established (R71), a vessel's condition
(R58), and bypass permission (R65). -/

namespace Sys2Proof.Machine

/-- R74, R75: the outgoing vessel of a switchover returns to CHARGING or DISCHARGING. -/
def Ck4.restoreBound (p : Ck4) (m : MachineId) : Ck4 :=
  match (p.binding m).bound with
  | none => p
  | some v => p.setUse v (boundUse m)

/-- R75: a switchover trigger with no target. -/
def Ck4.noTarget (p : Ck4) (m : MachineId) : Ck4 :=
  if machineDir m = .charge && p.allocator.bypassPermitted then Ck4.takeEligible p (p.enterBypass m)
  else (p.restoreBound m).unloadRequest m .heat

/-- R72: a switchover trigger, for a machine in LOADED with no target in flight; any other is ignored. -/
def Ck4.switchover (p : Ck4) (m : MachineId) (cause : SwitchCause) : Ck4 :=
  if (p.mach m).state == .loaded && (p.binding m).target.isNone then
    match p.choose (machineDir m) with
    | some v => p.allocate m v cause
    | none => p.noTarget m
  else p

/-- R72: the cause that a bound vessel's condition and class give, if any: DEGRADED before FULL or EMPTY. -/
def VesselRecord.triggerCause (r : VesselRecord) (m : MachineId) : Option SwitchCause :=
  if r.condition == .degraded then some .degraded
  else
    match machineDir m, r.content with
    | .charge, .full => some .full
    | .discharge, .empty => some .empty
    | _, _ => none

/-- R72: the trigger that the bound vessel's condition and class give now. -/
def Ck4.boundTrigger (p : Ck4) (m : MachineId) : Ck4 :=
  match (p.binding m).bound with
  | none => p
  | some v =>
    match (p.vessel v).triggerCause m with
    | none => p
    | some c => p.switchover m c

/-! ### A target given up (R74) -/

/-- R74 steps 3 and 4: after a target is gone, another is sought under the recorded cause. -/
def Ck4.seekAgain (p : Ck4) (m : MachineId) : Ck4 :=
  let cause := (p.binding m).cause.getD .load
  match p.choose (machineDir m) with
  | some v => p.allocate m v cause
  | none =>
    match cause with
    | .load =>
      if machineDir m = .charge && p.allocator.bypassPermitted then (p.enterBypass m).headroomCheck m
      else p.leaveLoading m .noVessel
    | .release => p.restoreBound m
    | .bypassExit => p
    | _ => p.noTarget m

/-- R58, R59: a vessel becomes DEGRADED, with its figures. -/
def Ck4.degrade (p : Ck4) (v : VesselId) : Ck4 :=
  p.setVessel v { p.vessel v with condition := .degraded, usable := 0, room := 0 }

/-- R74 step 2: the SWITCH_TIMEOUT fault. Its unload is the allocator's own handling (R141). -/
def switchTimeoutFault (v : VesselId) (m : MachineId) : FaultReport :=
  ⟨.vessel, .switchTimeout, vesselIndex v, (machineIndex m : Nat), .unload, true⟩

/-- R74: the target of a machine is given up, by the timeout or because it has turned DEGRADED. -/
def Ck4.giveUpTarget (p : Ck4) (m : MachineId) (timedOut : Bool) : Ck4 :=
  match (p.binding m).target with
  | none => p
  | some v =>
    let p1 := (p.freeVessel v).degrade v
    let p2 := p1.setBinding m { p1.binding m with target := none, timer := none }
    let p3 := if timedOut then p2.recordFault (switchTimeoutFault v m) else p2
    p3.seekAgain m

/-- What a vessel that has turned DEGRADED means to the machine it serves (R72, R74). -/
def Ck4.degradedTurn (p : Ck4) (v : VesselId) : Ck4 :=
  match (p.vessel v).use with
  | .switchingIn m => p.giveUpTarget m false
  | .charging m => p.switchover m .degraded
  | .discharging m => p.switchover m .degraded
  | _ => p

/-- R72: what a change of class of a bound vessel means to the machine it serves. -/
def Ck4.classTurn (p : Ck4) (v : VesselId) : Ck4 :=
  match (p.vessel v).use, (p.vessel v).content with
  | .charging m, .full => p.switchover m .full
  | .discharging m, .empty => p.switchover m .empty
  | _, _ => p

/-- R56 step 7, R72: the changes of condition and class of vessel `v` since `before` are taken by the binding rules. The model's
choice (log entry 20): where one record turns both, the turn to DEGRADED alone is taken, with cause DEGRADED. -/
def Ck4.takeTurns (before p : Ck4) (v : VesselId) : Ck4 :=
  if (before.vessel v).condition == .normal && (p.vessel v).condition == .degraded then p.degradedTurn v
  else if (before.vessel v).content != (p.vessel v).content then p.classTurn v
  else p

/-! ### A route established (R71) -/

/-- R71: the route to `v`, target of machine `m`, is established. A machine in LOADING then takes its first LOAD (R88); a
machine in LOADED meets what its new vessel's condition or class gives (R74). The model's choice (log entry 41): the vessel that
step 3 frees is taken as it becomes eligible (R73, R76) after the notice of step 5 and before the sequencer is told at step 6. -/
def Ck4.establish (p : Ck4) (m : MachineId) (v : VesselId) : Ck4 :=
  let b := p.binding m
  let p1 := p.setUse v (boundUse m)
  let p2 := p1.freeVessel? b.bound
  let p3 := p2.setBinding m { b with bound := some v, target := none, timer := none, bypass := false }
  let p4 := Ck4.takeEligible p (p3.postSwitched m b.oldCode (vesselIndex v))
  match (p4.mach m).state with
  | .loading => p4.routeReady m
  | .loaded => p4.boundTrigger m
  | _ => p4

/-- R71: a record of vessel `v` that echoes the order in force and reports the route for the machine it is the target of. -/
def Ck4.routeReported (p : Ck4) (v : VesselId) (echoed : Bool) : Ck4 :=
  match (p.vessel v).use with
  | .switchingIn m => if echoed && (p.vessel v).route == routeFor m then p.establish m v else p
  | _ => p

/-! ### Conditions and figures of a vessel (R56 to R60) -/

/-- R58: the SENSOR fault. -/
def sensorFault (v : VesselId) (count : Nat) : FaultReport := ⟨.vessel, .sensor, vesselIndex v, (count : Nat), .warn, true⟩

/-- R56 step 3, R58: the invalid count is tested; a turn from NORMAL hands SENSOR. -/
def Ck4.testCondition (p : Ck4) (v : VesselId) : Ck4 :=
  let r := p.vessel v
  if r.condition == .normal && r.invalidCount > 3 then
    (p.setVessel v { r with condition := .degraded }).recordFault (sensorFault v r.invalidCount)
  else p

/-- R56 steps 4 and 5. -/
def Ck4.refreshVessel (p : Ck4) (v : VesselId) : Ck4 := p.setVessel v (p.withFigures v (p.vessel v))

/-- R58, R177: the plant link reports a vessel's source state. LOST makes the vessel DEGRADED, without a fault. -/
def Ck4.vesselSource (p : Ck4) (v : VesselId) (s : SourceState) : Ck4 :=
  let q := p.setVessel v { p.vessel v with source := s }
  if s == .lost then
    if (q.vessel v).condition == .normal then (q.degrade v).degradedTurn v else q
  else q

/-! ### Bypass permission (R65, R170) -/

/-- R65: the permission that the request and the COOLER_READY line give. -/
def Ck4.permissionNow (p : Ck4) : Bool := p.allocator.bypassRequested && p.coolerAllows

/-- R65: the permission is recomputed; a change is reported to the inventory, and a permission withdrawn unloads every
train in bypass, in index order (the model's choice, log entries 28 and 40). -/
def Ck4.recomputeBypass (p : Ck4) : Ck4 :=
  let now := p.permissionNow
  if now = p.allocator.bypassPermitted then p
  else
    let q := Ck4.runProjection { p with allocator := { p.allocator with bypassPermitted := now } }
    if now then q
    else trains.foldl (fun r m => if (r.binding m).bypass then r.unloadRequest m .bypassLost else r) q

/-! ### Reserve deployment (R73, R121) -/

/-- R121, R73: dispatch hands the allocator a new reserve deployment. -/
def Ck4.takeReserve (p : Ck4) (z : Int) : Ck4 :=
  let q := { p with allocator := { p.allocator with reserve := z } }
  if p.allocator.reserve > 0 && z ≤ 0 && q.unheldEligible then q.releaseHeld else q

end Sys2Proof.Machine
end

