-- ==== Sys2Proof/Machine/Protection.lean ====
section
/-! DEFINITION. Protection: a fault handed with its severity's action (R137 to R147), and what raises such faults outside
the line unit and the plant link: the start timer, the controller's own trip, the entry into LOADED with an open breaker. -/

namespace Sys2Proof.Machine

/-! ### The acting machines (R141) -/

/-- 09 section 9.1: the machine of a source entry. -/
def SourceEntry.machine (e : SourceEntry) : Option MachineId :=
  match e.kind, e.unit with
  | .compressor, 1 => some .c1
  | .compressor, 2 => some .c2
  | .compressor, 3 => some .c3
  | .expander, 1 => some .e1
  | .expander, 2 => some .e2
  | _, _ => none

/-- R141: the acting machine of an UNLOAD or MACHINE fault. -/
def Ck4.actingMachine (p : Ck4) (f : FaultReport) : Option MachineId :=
  match f.reason with
  | .lost => (p.source f.subject).machine
  | .tripLine => machineOf f.info.toNat
  | .breakerOpened => machineOf f.info.toNat
  | .switchTimeout => none
  | .startFail => machineOf f.subject
  | .controllerTripped => machineOf f.subject
  | .orderUnconfirmed => machineOf f.subject
  | _ => none

/-- R141: the acting direction of a DIRECTION fault. -/
def actingDirection (f : FaultReport) : Dir := if f.reason = .cavernHigh then .charge else .discharge

/-! ### PLANT faults (R145 to R147) -/

/-- R145: a trip in progress begins. -/
def Ck4.beginTrip (p : Ck4) (seq : Nat) (f : FaultReport) : Ck4 :=
  Ck4.post { p with protection := { p.protection with tripInProgress := true, lastTripOrigin := some seq } }
    .tripBegun seq (256 * reasonCode f.reason + 16 * groupCode f.group : Nat)

/-- R146: the trip escalates to SHUTDOWN. -/
def Ck4.escalate (p : Ck4) (seq : Nat) : Ck4 :=
  let q := Ck4.changeMode { p with protection := { p.protection with shutdown := true } } .shutdown
  q.post .shutdown seq (q.protection.lastTripOrigin.getD 0 : Nat)

/-- R145, R146, R147: step 3 of R142 for a PLANT fault. -/
def Ck4.plantFault (p : Ck4) (seq : Nat) (f : FaultReport) : Ck4 :=
  if p.protection.tripInProgress then
    if p.protection.shutdown then p else p.escalate seq
  else p.beginTrip seq f

/-- One trip command for each machine of a list, in turn. -/
def Ck4.tripAll (p : Ck4) (ms : List MachineId) (restartValid : Bool) : Ck4 :=
  ms.foldl (fun q m => q.tripCommand restartValid m) p

/-- R143, R144: the severity action of a fault. -/
def Ck4.severityAction (p : Ck4) (f : FaultReport) : Ck4 :=
  match f.severity with
  | .warn => p
  | .unload =>
    match p.actingMachine f with
    | some m => p.unloadRequest m .faultUnload
    | none => p
  | .machine =>
    match p.actingMachine f with
    | some m => p.tripCommand f.restartValid m
    | none => p
  | .direction => p.tripAll (machinesOf (actingDirection f)) f.restartValid
  | .plant => p.tripAll allMachines f.restartValid

/-- R142: a fault of an enabled group is taken: numbered and recorded, its notice posted, trip in progress or SHUTDOWN
entered, and its severity's action handed to the sequencer. A fault of a disabled group is discarded (R137). -/
def Ck4.takeFault (p : Ck4) (f : FaultReport) : Ck4 :=
  if p.protection.enables.get f.group then
    let seq := p.protection.nextSequence
    let q := p.numberFault f
    (if f.severity = .plant then q.plantFault seq f else q).severityAction f
  else p

/-! ### Faults of the sequencer and of entries into LOADED -/

/-- R86, R98, R103: the group of a machine's own faults. -/
def machineGroup (m : MachineId) : Group :=
  match machineDir m with
  | .charge => .machC
  | .discharge => .machE

/-- R86: the START_FAIL fault. The model's choice (log entry 42): its info is the start_time_limit in force at the expiry, also
where a store of the MACHINES section has changed it during the start. -/
def Ck4.startFailFault (p : Ck4) (m : MachineId) : FaultReport :=
  ⟨machineGroup m, .startFail, machineIndex m, (p.startLimit m : Nat), .machine, false⟩

/-- R98: the CONTROLLER_TRIPPED fault. -/
def controllerTrippedFault (m : MachineId) (s : MachineState) : FaultReport :=
  ⟨machineGroup m, .controllerTripped, machineIndex m, (machineStateCode s : Nat), .machine, false⟩

/-- R103: the UNEXPECTED_STATE fault. -/
def unexpectedFault (m : MachineId) (s : MachineState) (r : Report) : FaultReport :=
  ⟨machineGroup m, .unexpectedState, machineIndex m, (256 * machineStateCode s + reportCode r : Nat), .warn, true⟩

/-- R98: a TRIPPED report outside TRIPPED and LOCKED_OUT. -/
def Ck4.controllerTrip (p : Ck4) (m : MachineId) : Ck4 :=
  let r := p.mach m
  if r.controllerTripHanded then p
  else (p.setMach m { r with controllerTripHanded := true }).takeFault (controllerTrippedFault m r.state)

/-- The index of the input line that a function is assigned to. -/
def Ck4.lineIndexOf (p : Ck4) (f : InputFunction) : Nat := p.lines.inputs.findIdx fun i => i.function == f

/-- R168: the BREAKER_OPENED fault. -/
def breakerFault (line : Nat) (m : MachineId) : FaultReport :=
  ⟨.lines, .breakerOpened, line, (machineIndex m : Nat), .machine, true⟩

/-- R168: the entry to LOADED with the breaker open. -/
def Ck4.breakerAtLoaded (p : Ck4) (m : MachineId) : Ck4 :=
  if p.assignedInactive (.breaker m) then p.takeFault (breakerFault (p.lineIndexOf (.breaker m)) m) else p

/-- R89, R72, R168: a machine in LOADING passes to LOADED: the allocator takes what its bound vessel has become, and the line
unit its breaker. The model's choice (log entry 41): the allocator's trigger is taken first, so that a switchover begun by it is
abandoned by the trip that BREAKER_OPENED brings. -/
def Ck4.toLoaded (p : Ck4) (m : MachineId) : Ck4 :=
  ((p.transition m .loaded .loadedReported).boundTrigger m).breakerAtLoaded m

/-- R86: the start timer expires. -/
def Ck4.startTimeout (p : Ck4) (m : MachineId) : Ck4 :=
  (p.setMach m { p.mach m with startTimer := none, startFailed := true }).takeFault (p.startFailFault m)

/-! ### The way back (R99) -/

/-- R99: a machine leaves TRIPPED for STOPPED. -/
def Ck4.ackToStopped (p : Ck4) (m : MachineId) : Ck4 := p.transitionOrder m .stopped .tripAck .stop

/-- R99: the acknowledgement reaches one machine. -/
def Ck4.acknowledge (p : Ck4) (m : MachineId) : Ck4 :=
  let r := p.mach m
  if r.state == .tripped then
    let q := p.setMach m { r with acknowledged := true }
    if r.stoppedSinceTrip && !r.lockoutPending then q.ackToStopped m else q
  else p

/-- R99: a report STOPPED taken in TRIPPED. -/
def Ck4.trippedStopped (p : Ck4) (m : MachineId) : Ck4 :=
  let r := p.mach m
  let q := p.setMach m { r with stoppedSinceTrip := true }
  if r.lockoutPending then q.transition m .lockedOut .lockout
  else if r.acknowledged then q.ackToStopped m
  else q

end Sys2Proof.Machine
end

