-- ==== Sys2Proof/Machine/Cycle.lean ====
section
/-! DEFINITION. The dispatch cycle (R113 to R128) and the settlement of an interval (R130 to R132). -/

namespace Sys2Proof.Machine

/-! ### Stages 1 to 3 -/

/-- R115: the ramp step. -/
def Ck4.rampStep (p : Ck4) : Nat := max 1 (p.dispatchRamp / 2 ^ p.dispatch.gear)

/-- R115: one step from `s` toward `t`. -/
def approach (s t : Int) (step : Nat) : Int :=
  if (t - s).natAbs ≤ step then t else if t > s then s + step else s - step

/-- R117: the dwell timer blocks a direction. -/
def Ck4.dwellBlocks (p : Ck4) (d : Dir) : Bool :=
  match p.dispatch.dwell with
  | some t => t.blocked == d
  | none => false

/-- R116: S may leave 0 into a direction. -/
def Ck4.mayLeaveZero (p : Ck4) (d : Dir) : Bool := !p.dirInService (otherDir d) && !p.dwellBlocks d

/-- R115, R116: the movement of S toward T0. -/
def Ck4.moveS (p : Ck4) (t0 : Int) : Int :=
  let s := p.dispatch.s
  if s ≠ 0 then
    if powerDir t0 = powerDir s then approach s t0 p.rampStep else approach s 0 p.rampStep
  else
    match powerDir t0 with
    | none => 0
    | some d => if p.mayLeaveZero d then approach 0 t0 p.rampStep else 0

/-- R120: P_res from the frequency error. -/
def Ck4.reserveAt (p : Ck4) (f up down : Nat) : Int :=
  let df : Int := (f : Int) - p.fNominal
  if df.natAbs ≤ p.deadband then 0
  else if df < 0 then (min up ((df.natAbs - p.deadband) * up / (p.fFull - p.deadband)) : Nat)
  else -((min down ((df.natAbs - p.deadband) * down / (p.fFull - p.deadband)) : Nat) : Int)

/-- R120: P_res of a cycle. -/
def Ck4.reserveNow (p : Ck4) (up down : Nat) : Int :=
  match p.dispatch.meter with
  | .lost => 0
  | .stale => clampInt (-(down : Int)) up p.dispatch.pRes
  | .fresh =>
    match p.dispatch.frequencySinceFresh, p.dispatch.frequency with
    | true, some f => p.reserveAt f up down
    | _, _ => clampInt (-(down : Int)) up p.dispatch.pRes

/-! ### Stage 4 -/

/-- R122: |F| is cut to a limit. -/
def cutTo (limit : Nat) (f : Int) : Int :=
  if f.natAbs ≤ limit then f else if f > 0 then (limit : Int) else -(limit : Int)

/-- R122 clamp 2: the ratings of the machines of a direction that can be counted on. -/
def Ck4.available (p : Ck4) (d : Dir) : Nat :=
  sumNat (((machinesOf d).filter fun m =>
    (p.mach m).state != .tripped && (p.mach m).state != .lockedOut && (p.mach m).source != .lost).map p.rating)

/-- R62, R122 clamp 5: heat available in a direction. -/
def Ck4.heatAvailable (p : Ck4) (d : Dir) : Bool :=
  match d with
  | .charge => p.chargeHeat
  | .discharge => p.dischargeHeat

/-- R122: one clamp; it becomes the binding clamp where it changes F. -/
def clampWith (name : Clamp) (f : Int → Int) (st : Int × Clamp) : Int × Clamp :=
  if f st.1 = st.1 then st else (f st.1, name)

/-- R122: F and the binding clamp, for a given S and P_res. -/
def Ck4.clampPower (p : Ck4) (s pRes : Int) : Int × Clamp :=
  match powerDir s with
  | none => clampWith .mode (fun _ => 0) (s + pRes, .none)
  | some d =>
    let c1 := clampWith .mode (fun f => if powerDir f = some (otherDir d) then 0 else f) (s + pRes, .none)
    let c2 := clampWith .availability (cutTo (p.available d)) c1
    let c3 := clampWith .rate (cutTo (p.rateLimit d)) c2
    let c4 := clampWith .margin (fun f => if p.marginReached d then 0 else f) c3
    clampWith .heat (fun f => if p.heatAvailable d then f else 0) c4

/-- R123: the accumulators of the interval in progress are advanced. -/
def DispatchUnit.accumulate (d : DispatchUnit) (shortfall : Int) : DispatchUnit :=
  { d with reserveSum := d.reserveSum + d.pRes, shortfallSum := d.shortfallSum + 100 * shortfall, cycles := d.cycles + 1 }

/-- R121: a P_res that differs from the one before is handed to the allocator. -/
def Ck4.handReserve (p : Ck4) (before : Int) : Ck4 :=
  if p.dispatch.pRes = before then p else p.takeReserve p.dispatch.pRes

/-- Stages 1 to 3, R113 to R121. -/
def Ck4.setTargets (p : Ck4) : Ck4 :=
  let r : Resolved := match p.active with
    | some a => p.dispatchResolution a
    | none => ⟨0, 0, 0⟩
  let s := p.moveS r.power
  let q := { p with dispatch := { p.dispatch with
    t0 := r.power, t0Up := r.up, t0Down := r.down, s := s, pRes := p.reserveNow r.up r.down
    permitDischarge := s > 0 && !p.dwellBlocks .discharge
    permitCharge := s < 0 && !p.dwellBlocks .charge } }
  q.handReserve p.dispatch.pRes

/-- Stage 4, R122, R123. -/
def Ck4.setFinal (p : Ck4) : Ck4 :=
  let c := p.clampPower p.dispatch.s p.dispatch.pRes
  let d := { p.dispatch with f := c.1, clamp := c.2 }
  { p with dispatch := d.accumulate (d.t0 + d.pRes - c.1) }

/-! ### Stage 5 (R124, R125) -/

/-- 05 section 5.6: a committed machine. -/
def MachineRecord.committed (r : MachineRecord) : Bool :=
  r.demand == .serve &&
    (r.state == .starting || r.state == .idle || r.state == .loading || r.state == .loaded || r.state == .unloading)

/-- 05 section 5.6: the committed capacity of a direction. -/
def Ck4.committedCapacity (p : Ck4) (d : Dir) : Nat :=
  sumNat (((machinesOf d).filter fun m => (p.mach m).committed).map p.dispatchRating)

/-- R124: the target capacity of the direction of S. Of the other direction, which ReadDispatch returns too (R134), it is 0: the
model's choice (log entry 33). -/
def Ck4.targetCapacity (p : Ck4) (d : Dir) : Nat :=
  if powerDir p.dispatch.s = some d then
    p.dispatch.s.natAbs + (match d with | .discharge => p.dispatch.t0Up | .charge => p.dispatch.t0Down)
  else 0

/-- R124: machines are asked for until the committed capacity reaches the target or none is served; a direction has at most
three machines, so `n` = 3 requests suffice. -/
def Ck4.commit (p : Ck4) (d : Dir) (n : Nat) : Ck4 :=
  match n with
  | 0 => p
  | n + 1 =>
    if p.committedCapacity d < p.targetCapacity d then
      match p.oneMore d with
      | (some _, q) => q.commit d n
      | (none, q) => q
    else p

/-- R125: one machine of the direction of S is shed where the committed capacity is above need. -/
def Ck4.shedExcess (p : Ck4) (d : Dir) : Ck4 :=
  match p.shedCandidate d with
  | none => p
  | some m =>
    if p.committedCapacity d ≥ p.targetCapacity d + p.unloadMargin + p.rating m then p.shed m else p

/-- R125: every machine of a direction in LOADED is shed, one request after another. -/
def Ck4.shedAll (p : Ck4) (d : Dir) (n : Nat) : Ck4 :=
  match n with
  | 0 => p
  | n + 1 =>
    match p.shedCandidate d with
    | none => p
    | some m => (p.shed m).shedAll d n

/-- Stage 5. -/
def Ck4.setCommitment (p : Ck4) : Ck4 :=
  match powerDir p.dispatch.s with
  | none => (p.shedAll .charge 3).shedAll .discharge 3
  | some d =>
    let q := if p.marginReached d then p else p.commit d 3
    let r := if q.dispatch.f = 0 then q.shedAll d 3 else q.shedExcess d
    r.shedAll (otherDir d) 3

/-! ### Stage 6 (R126 to R128) -/

/-- The machines of a direction in LOADED, in index order. -/
def Ck4.loadedOf (p : Ck4) (d : Dir) : List MachineId := (machinesOf d).filter fun m => (p.mach m).state == .loaded

/-- R126: the part of F that the loaded machines share. -/
def Ck4.partToShare (p : Ck4) (d : Dir) : Nat :=
  let loading := (machinesOf d).filter fun m => (p.mach m).state == .loading && (p.mach m).firstLoadPlaced
  min (p.dispatch.f.natAbs - sumNat (loading.map fun m => (p.mach m).setpoint)) (sumNat ((p.loadedOf d).map p.rating))

/-- R126: machines are shed until the part covers the minimum powers of those that take part (log entry 17). -/
def Ck4.fit (p : Ck4) (d : Dir) (n : Nat) : Ck4 :=
  match n with
  | 0 => p
  | n + 1 =>
    if p.partToShare d < sumNat ((p.loadedOf d).map p.minPower) then
      match p.shedCandidate d with
      | none => p
      | some m => (p.shed m).fit d n
    else p

/-- R127 step 1: the share of one machine. -/
def Ck4.shareOf (p : Ck4) (a total : Nat) (m : MachineId) : Nat := a * p.rating m / total

/-- R127 step 3: the left-over tenths go one each to the machines still sharing, lowest index first. -/
def giveTenths (shares : List (MachineId × Nat)) (left : Nat) : List (MachineId × Nat) :=
  match shares, left with
  | (m, n) :: rest, left + 1 => (m, n + 1) :: giveTenths rest left
  | shares, _ => shares

/-- R127: the shares of `a` among machines; `n` bounds the rounds, since each round but the last fixes a machine. -/
def Ck4.shares (p : Ck4) (a : Nat) (ms : List MachineId) (n : Nat) : List (MachineId × Nat) :=
  let total := sumNat (ms.map p.rating)
  let low := ms.filter fun m => p.shareOf a total m < p.minPower m
  match n, low with
  | _, [] =>
    let first := ms.map fun m => (m, p.shareOf a total m)
    giveTenths first (a - sumNat (first.map (·.2)))
  | 0, _ => []
  | n + 1, low =>
    low.map (fun m => (m, p.minPower m)) ++
      p.shares (a - sumNat (low.map p.minPower)) (ms.filter fun m => !(m ∈ low)) n

/-- The share of a machine, 0 where it has none. -/
def shareIn (shares : List (MachineId × Nat)) (m : MachineId) : Nat :=
  match shares.find? fun x => x.1 = m with
  | some x => x.2
  | none => 0

/-- R128: the setpoints are handed, those that lower a machine's setpoint first, each group in index order. -/
def Ck4.handShares (p : Ck4) (ms : List MachineId) (shares : List (MachineId × Nat)) : Ck4 :=
  let lower := ms.filter fun m => shareIn shares m < (p.mach m).setpoint
  let higher := ms.filter fun m => (p.mach m).setpoint < shareIn shares m
  (lower ++ higher).foldl (fun q m => q.handSetpoint m (shareIn shares m)) p

/-- R126, R127: the split of the direction of S. -/
def Ck4.split (p : Ck4) (d : Dir) : Ck4 :=
  let q := p.fit d 3
  let ms := q.loadedOf d
  q.handShares ms (q.shares (q.partToShare d) ms 3)

/-- R128: the load attempts (R87) and then the headroom checks (R88). The spec gives no order among the machines of either: the
model's choice (log entry 40) is index order, C1 to E2, all the attempts before the checks. -/
def Ck4.callLoads (p : Ck4) : Ck4 :=
  let q := allMachines.foldl Ck4.loadAttempt p
  allMachines.foldl (fun r m => if (r.mach m).state == .loading && (r.mach m).loadPending then r.headroomCheck m else r) q

/-- Stage 6. -/
def Ck4.setSplit (p : Ck4) : Ck4 :=
  match powerDir p.dispatch.s with
  | none => p.callLoads
  | some d => (if p.dispatch.f = 0 then p else p.split d).callLoads

/-! ### The cycle (R113) -/

/-- R113: the cycle in STANDBY, UNCONFIGURED and SHUTDOWN. -/
def Ck4.restCycle (p : Ck4) : Ck4 :=
  let d := { p.dispatch with
    t0 := 0, t0Up := 0, t0Down := 0, s := 0, pRes := 0, f := 0, clamp := .none, permitDischarge := false, permitCharge := false }
  Ck4.handReserve { p with dispatch := d.accumulate 0 } p.dispatch.pRes

/-- R113: one dispatch cycle. -/
def Ck4.cycle (p : Ck4) : Ck4 :=
  if p.running then p.setTargets.setFinal.setCommitment.setSplit else p.restCycle

/-! ### Settlement (R130 to R132) -/

/-- Closing marks (07 section 7.2). -/
inductive ClosingMark where
  | normal | cut | skipped
  deriving DecidableEq, Repr

/-- R131: one totaliser's movement. -/
def moved32 (held start : Nat) : Nat := (held + 4294967296 - start) % 4294967296

/-- R131: the metered net export. -/
def DispatchUnit.metered (d : DispatchUnit) (mark : ClosingMark) : Option Int :=
  if d.meterLost || mark = .skipped then none
  else
    match d.exportKwh, d.importKwh, d.startExport, d.startImport with
    | some e, some i, some se, some si => some ((moved32 e se : Int) - (moved32 i si : Int))
    | _, _, _, _ => none

/-- R130: the settlement record of a closing interval. -/
def DispatchUnit.settlement (d : DispatchUnit) (day interval : Nat) (committed : Bool) (power : Int) (mark : ClosingMark) :
    Settlement :=
  let scheduled := power * 25
  let reserve := d.reserveSum.tdiv 36
  { number := d.number, day := day, interval := interval, committed := committed, power := power
    scheduled := scheduled, reserve := reserve, shortfall := d.shortfallSum.tdiv 3600
    metered := d.metered mark, deviation := (d.metered mark).map fun x => x - (scheduled + reserve)
    cutShort := mark != .normal }

/-- R130: the accumulators are cleared. -/
def DispatchUnit.restart (d : DispatchUnit) : DispatchUnit :=
  { d with
    reserveSum := 0, shortfallSum := 0, cycles := 0
    startExport := d.exportKwh, startImport := d.importKwh
    meterLost := d.meter == .lost || d.exportKwh.isNone || d.importKwh.isNone }

/-- R132: the log takes a record, and drops the oldest where it is full. -/
def pushSettlement (log : List Settlement) (r : Settlement) : List Settlement :=
  (if log.length < Config.settlementLogSize then log else log.drop 1) ++ [r]

/-- R130, R132: dispatch settles a closing record. -/
def Ck4.settleInterval (p : Ck4) (day interval : Nat) (committed : Bool) (power : Int) (mark : ClosingMark) : Ck4 :=
  let d := p.dispatch
  let r := d.settlement day interval committed power mark
  Ck4.post { p with dispatch := { d.restart with log := pushSettlement d.log r, number := succ16 d.number } }
    .intervalSettled interval (65536 * d.number + day % 65536 : Nat)

end Sys2Proof.Machine
end

