-- ==== Sys2Proof/Machine/NonVolatile.lean ====
section
/-! DEFINITION. Non-volatile memory: the two counter save slots and the constant sections with their CRCs (R109, R192,
R193), and the end of a step. -/

namespace Sys2Proof.Machine

/-- The stored bytes of a section: its values, four bytes each (log entry 8). -/
def sectionBytes (values : List Int) : List Byte := values.flatMap (signedBytes 4)

/-- R192: the CRC of a section's stored bytes. -/
def sectionCrc (values : List Int) : Word16 := crc16 (sectionBytes values)

/-- The stored bytes of one machine's counters (section 4.9; log entry 8). -/
def counterBytes (c : Counters) : List Byte :=
  bytesOf 4 c.runSeconds ++ bytesOf 4 c.loadedSeconds ++ bytesOf 6 c.loadMs ++ bytesOf 4 c.starts ++ bytesOf 4 c.trips

/-- The stored bytes of the plant time of a save (log entry 8). -/
def timeBytes (t : Option PlantTime) : List Byte :=
  match t with
  | none => bytesOf 9 0
  | some t => 1#8 :: bytesOf 2 t.day ++ bytesOf 4 t.second ++ bytesOf 2 t.ms

/-- The stored bytes of a save slot (R109; log entry 8). -/
def slotBytes (number : Nat) (time : Option PlantTime) (c : PerMachine Counters) : List Byte :=
  bytesOf 4 number ++ timeBytes time ++ allMachines.flatMap fun m => counterBytes (c.get m)

/-- R109: a save slot with the CRC of what it holds. -/
def SaveSlot.written (number : Nat) (time : Option PlantTime) (c : PerMachine Counters) : SaveSlot :=
  ⟨number, time, c, crc16 (slotBytes number time c)⟩

/-- R109: whether a slot's CRC is good. -/
def SaveSlot.good (s : SaveSlot) : Bool := s.crc == crc16 (slotBytes s.number s.time s.counters)

/-- R109: the slot a save is written into, `false` the first and `true` the second, and its save number. -/
def Constants.nextSave (c : Constants) : Bool × Nat :=
  match c.slotA.good, c.slotB.good with
  | false, false => (false, 1)
  | true, false => (true, c.slotA.number + 1)
  | false, true => (false, c.slotB.number + 1)
  | true, true => if c.slotA.number ≤ c.slotB.number then (false, c.slotB.number + 1) else (true, c.slotA.number + 1)

/-- The counters of the five machines as they stand. -/
def Ck4.counters (p : Ck4) : PerMachine Counters :=
  ⟨(p.mach .c1).counters, (p.mach .c2).counters, (p.mach .c3).counters, (p.mach .e1).counters, (p.mach .e2).counters⟩

/-- R109, R193: a save that has been asked for is taken when neither a save nor a section store is in flight. All that one step
asks for is one save, taken at its end, with no save to follow (the model's choice, log entry 47). -/
def Ck4.pumpSave (p : Ck4) : Ck4 :=
  if p.sequencer.saveAsked && p.sequencer.save.isNone && p.constants.store.isNone then
    let n := p.constants.nextSave
    { p with sequencer := { p.sequencer with saveAsked := false, save := some ⟨n.1, n.2, p.stamp, p.counters⟩ } }
  else p

/-- R109: the save in flight completes. -/
def Ck4.completeSave (p : Ck4) : Ck4 :=
  match p.sequencer.save with
  | none => p
  | some s =>
    let slot := SaveSlot.written s.number s.time s.counters
    let q := { p with sequencer := { p.sequencer with save := none, lastSave := some ⟨s.number, s.time⟩ } }
    if s.slot then { q with constants := { q.constants with slotB := slot } }
    else { q with constants := { q.constants with slotA := slot } }

/-- The end of a step: a save asked for is taken, both transmitters look at what they may send, and every output is
recomputed (R109, R171, R180, R188; log entry 11). -/
def Ck4.finish (p : Ck4) : Ck4 := p.pumpSave.pumpReplies.pumpOrders.refreshOutputs

end Sys2Proof.Machine
end

