-- ==== Sys2Proof/Machine/Calendar.lean ====
section
/-! DEFINITION. The running of plant time, interval boundaries and SetTime (07_plant_time), with what the schedule does at
them (R3, R5, R7, R8). -/

namespace Sys2Proof.Machine

/-! ### The elapsed count and its timers -/

/-- R155: a timer counts `d` milliseconds; it stands at 0 when it expires. -/
def tickTimer (d : Nat) (t : Option Nat) : Option Nat := t.map (· - d)

/-- The timers of a machine. -/
def MachineRecord.tick (d : Nat) (r : MachineRecord) : MachineRecord :=
  { r with startTimer := tickTimer d r.startTimer, lingerTimer := tickTimer d r.lingerTimer }

/-- The timers of an order slot. -/
def Slot.tick (d : Nat) (s : Slot) : Slot :=
  { s with confirmTimer := tickTimer d s.confirmTimer, repeatTimer := tickTimer d s.repeatTimer }

/-- The timer of a binding. -/
def Binding.tick (d : Nat) (b : Binding) : Binding := { b with timer := tickTimer d b.timer }

/-- A function over the five machines. -/
def PerMachine.mapAll {α : Type} (f : α → α) (x : PerMachine α) : PerMachine α := ⟨f x.c1, f x.c2, f x.c3, f x.e1, f x.e2⟩

/-- A function over the eight vessels. -/
def PerVessel.mapAll {α : Type} (f : α → α) (x : PerVessel α) : PerVessel α :=
  ⟨f x.v0, f x.v1, f x.v2, f x.v3, f x.v4, f x.v5, f x.v6, f x.v7⟩

/-- R155: every timer of the part counts `d` milliseconds. -/
def Ck4.tickTimers (p : Ck4) (d : Nat) : Ck4 :=
  { p with
    schedule := { p.schedule with staging := p.schedule.staging.map fun g => { g with timer := g.timer - d } }
    allocator := { p.allocator with bindings := p.allocator.bindings.mapAll (Binding.tick d) }
    sequencer := { p.sequencer with
      machines := p.sequencer.machines.mapAll (MachineRecord.tick d), counterTimer := p.sequencer.counterTimer - d }
    dispatch := { p.dispatch with
      cycleTimer := p.dispatch.cycleTimer - d
      dwell := p.dispatch.dwell.map fun t => { t with remaining := t.remaining - d } }
    plantLink := { p.plantLink with
      machineSlots := p.plantLink.machineSlots.mapAll (Slot.tick d)
      vesselSlots := p.plantLink.vesselSlots.mapAll (Slot.tick d) } }

/-! ### Boundaries -/

/-- R16, R17: STAGING_DISCARDED, where staging is open. -/
def Ck4.postDiscard (p : Ck4) (subject : Nat) (staging : Option Staging) : Ck4 :=
  match staging with
  | none => p
  | some g => p.post .stagingDiscarded subject (g.day : Nat)

/-- R5 step 1: the interval of absolute index `c` is settled, with its dispatch resolution as it stands. -/
def Ck4.closeInterval (p : Ck4) (c : Nat) (mark : ClosingMark) : Ck4 :=
  Ck4.settleInterval { p with schedule := p.schedule.settle c } (p.schedule.day.getD 0) c (p.schedule.record c).committed
    (p.dispatchResolution c).power mark

/-- R7: the pages move by one day; a staging page of the old CURRENT day is discarded (R17). -/
def Ck4.moveDay (p : Ck4) : Ck4 :=
  Ck4.postDiscard { p with schedule := p.schedule.rollOver } 2 (p.schedule.staging.filter fun g => some g.day == p.schedule.day)

/-- R5 steps 2 to 4: interval `k` starts. -/
def Ck4.startInterval (p : Ck4) (k : Nat) : Ck4 :=
  Ck4.runBoundaryProjection { p with schedule := (p.schedule.activate k).closeGate (k + 1) p.gateLead } k

/-- R5, R7: the schedule takes the boundary at which interval `k` starts, the day rollover where `k` is 0. -/
def Ck4.scheduleBoundary (p : Ck4) (k : Nat) (mark : ClosingMark) : Ck4 :=
  if k = 0 then (p.closeInterval 95 mark).moveDay.startInterval 0
  else (p.closeInterval (k - 1) mark).startInterval k

/-- R156: a boundary is handed to the schedule and, at a whole plant hour, to the sequencer. -/
def Ck4.handBoundary (p : Ck4) (k : Nat) (mark : ClosingMark) : Ck4 :=
  let q := p.scheduleBoundary k mark
  if k % 4 = 0 then q.askSave else q

/-- R156: the running clock stands at a boundary. -/
def Ck4.boundaryNow (p : Ck4) : Ck4 :=
  Ck4.handBoundary { p with time := { p.time with nextCut := false } } (p.time.second / 900)
    (if p.time.nextCut then .cut else .normal)

/-! ### The clock -/

/-- R155: the last instant that plant time can hold. -/
def TimeBase.atLast (t : TimeBase) : Bool := t.day == Config.lastDay && t.second == 86399 && t.ms == 999

/-- R155: plant time runs. -/
def TimeBase.runs (t : TimeBase) : Bool := t.valid && !t.endOfRange

/-- R155: one millisecond of plant time. -/
def TimeBase.advance (t : TimeBase) : TimeBase :=
  if !t.runs || t.atLast then t
  else if t.ms < 999 then { t with ms := t.ms + 1 }
  else if t.second < 86399 then { t with second := t.second + 1, ms := 0 }
  else { t with day := t.day + 1, second := 0, ms := 0 }

/-- R156: plant time stands at a boundary. -/
def TimeBase.atBoundary (t : TimeBase) : Bool := t.second % 900 == 0 && t.ms == 0

/-- R156: plant time at the next boundary of the running clock. -/
def TimeBase.toBoundary (t : TimeBase) : TimeBase :=
  let k := t.second / 900 + 1
  if k < 96 then { t with second := 900 * k, ms := 0 } else { t with day := t.day + 1, second := 0, ms := 0 }

/-- R155, R156: the running clock has a boundary ahead: every one but the rollover out of day 65,534. -/
def TimeBase.boundaryAhead (t : TimeBase) : Bool := t.runs && !(t.day ≥ Config.lastDay && t.second / 900 ≥ 95)

/-- An instant of plant time in milliseconds. -/
def instantOf (day second ms : Nat) : Nat := (day * 86400 + second) * 1000 + ms

/-- The present instant. -/
def TimeBase.instant (t : TimeBase) : Nat := instantOf t.day t.second t.ms

/-- R155: the clock moves on to `t`, and the elapsed count and every timer by the same milliseconds. -/
def Ck4.runTo (p : Ck4) (t : TimeBase) : Ck4 :=
  let d := t.instant - p.time.instant
  { p.tickTimers d with time := { t with elapsed := p.time.elapsed + d } }

/-- R156: the running clock reaches its next boundary (log entry 4). -/
def Ck4.reachBoundary (p : Ck4) : Ck4 := if p.time.boundaryAhead then (p.runTo p.time.toBoundary).boundaryNow else p

/-- R155: plant time reaches the end of its range (log entry 4). -/
def Ck4.reachEnd (p : Ck4) : Ck4 :=
  if p.time.runs && p.time.day == Config.lastDay && p.time.second / 900 == 95 then
    (p.runTo { p.time with second := 86399, ms := 999, endOfRange := true }).post .timeStepped 4 0
  else p

/-! ### SetTime (R157 to R160) -/

/-- R157: the class of a step. -/
def TimeBase.stepClass (t : TimeBase) (day second ms : Nat) : StepKind :=
  if !t.valid then .firstSet
  else if instantOf day second ms < t.instant then .backward
  else if day ≤ t.day + 1 then .forward
  else .forwardClearing

/-- R158, R159: the size of a step in whole seconds, toward zero, saturated. -/
def TimeBase.stepSize (t : TimeBase) (day second ms : Nat) : Int :=
  clampInt (-2147483648) 2147483647 (((instantOf day second ms : Int) - (t.instant : Int)).tdiv 1000)

/-- The clock takes an instant, with the last step's record. -/
def TimeBase.set (t : TimeBase) (day second ms : Nat) (kind : StepKind) (size : Int) : TimeBase :=
  { t with valid := true, day := day, second := second, ms := ms, lastStep := ⟨kind, size, some ⟨day, second, ms⟩⟩ }

/-- R3: the pages are established for the clock's instant, and a projection is asked for. -/
def Ck4.establishPages (p : Ck4) : Ck4 :=
  Ck4.runProjection { p with schedule := p.schedule.establish p.time.day (p.time.second / 900) p.gateLead }

/-- R158: the mark of the `i`th boundary of a forward step. -/
def forwardMark (i : Nat) : ClosingMark := if i ≤ 4 then .cut else .skipped

/-- R158: the boundaries of a forward step from the `i`th on, `n` of them; `base` is the interval in progress before it. -/
def Ck4.crossBoundaries (p : Ck4) (base i n : Nat) : Ck4 :=
  match n with
  | 0 => p
  | n + 1 => (p.handBoundary ((base + i) % 96) (forwardMark i)).crossBoundaries base (i + 1) n

/-- R158: the boundaries strictly after the present instant and at or before the new one. -/
def TimeBase.crossed (t : TimeBase) (day second ms : Nat) : Nat := instantOf day second ms / 900000 - t.instant / 900000

/-- R158: a forward step. -/
def Ck4.stepForward (p : Ck4) (day second ms : Nat) : Ck4 :=
  let n := p.time.crossed day second ms
  let size := p.time.stepSize day second ms
  let p1 := Ck4.post { p with time := p.time.set day second ms .forward size } .timeStepped 1 size
  let p2 := p1.crossBoundaries (p.time.second / 900) 1 n
  if n = 0 then p2 else { p2 with time := { p2.time with nextCut := !(p2.time.atBoundary) } }

/-- R158: the first setting. -/
def Ck4.setFirst (p : Ck4) (day second ms : Nat) : Ck4 :=
  let t := { p.time.set day second ms .firstSet 0 with nextCut := true }
  (Ck4.establishPages { p with time := t }).post .timeStepped 0 (day : Nat)

/-- R159, R8: a clearing forward step or a backward step. The model's choice (log entry 43): a backward step clears the pages also
where it crosses no boundary and stays within its day. -/
def Ck4.stepClearing (p : Ck4) (day second ms : Nat) (kind : StepKind) : Ck4 :=
  let size := p.time.stepSize day second ms
  let t := { p.time.set day second ms kind size with
    nextCut := true, endOfRange := if kind = .backward then false else p.time.endOfRange }
  let p1 := Ck4.postDiscard { p with time := t, schedule := p.schedule.clear } 3 p.schedule.staging
  p1.establishPages.post .timeStepped (if kind = .backward then 3 else 2) size

/-- R157: an accepted SetTime of a class. One that names the last instant of day 65,534 leaves end of range as its class has it; the
stop of R155 is taken as an event of its own afterwards (the model's choice, log entry 49). -/
def Ck4.applyTime (p : Ck4) (day second ms : Nat) : Ck4 :=
  match p.time.stepClass day second ms with
  | .firstSet => p.setFirst day second ms
  | .forward => p.stepForward day second ms
  | kind => p.stepClearing day second ms kind

end Sys2Proof.Machine
end

