-- ==== Sys2Proof/Machine/Lines.lean ====
section
/-! DEFINITION. The line unit: samples, qualification and edges (R163, R164), and what each edge hands over (R166 to R170). -/

namespace Sys2Proof.Machine

/-- The input line of an index. -/
def Ck4.input (p : Ck4) (i : Nat) : InputLine := p.lines.inputs.getD i .unassigned

/-- The input line of an index is replaced. -/
def Ck4.setInput (p : Ck4) (i : Nat) (l : InputLine) : Ck4 :=
  { p with lines := { p.lines with inputs := p.lines.inputs.set i l } }

/-- R163: the check time of a code, in ms; code 0 is taken as 1. -/
def checkTime (code : Nat) : Nat := if code = 0 then 1 else 2 ^ (code - 1)

/-- Edges of a qualified change (R164). -/
inductive Edge where
  | active | inactive | adoption
  deriving DecidableEq, Repr

/-- R164: the edge of a change from the qualified level that a line held to a new one. -/
def edgeOf (line : InputLine) (level : Level) : Edge :=
  match line.qualified with
  | none => .adoption
  | some _ => if levelActive line.polarity level then .active else .inactive

/-- The faults of the line unit (R166, R167, R169). -/
def lineFault (reason : Reason) (line : Nat) (info : Int) (severity : Severity) (restartValid : Bool) : FaultReport :=
  ⟨.lines, reason, line, info, severity, restartValid⟩

/-- R166 to R169: what an active edge hands over. -/
def Ck4.activeEdge (p : Ck4) (i : Nat) (f : InputFunction) : Ck4 :=
  match f with
  | .estop => p.takeFault (lineFault .estop i 0 .plant false)
  | .gridLoss => p.takeFault (lineFault .gridLoss i 0 .plant true)
  | .trip m => p.takeFault (lineFault .tripLine i (machineIndex m : Nat) .machine false)
  | .cavernHigh => p.takeFault (lineFault .cavernHigh i 0 .direction true)
  | .cavernLow => p.takeFault (lineFault .cavernLow i 0 .direction true)
  | .breaker _ => p
  | .coolerReady => p.recomputeBypass
  | .none => p

/-- R168, R170: what an inactive edge hands over. -/
def Ck4.inactiveEdge (p : Ck4) (i : Nat) (f : InputFunction) : Ck4 :=
  match f with
  | .breaker m => if (p.mach m).state == .loaded then p.takeFault (breakerFault i m) else p
  | .coolerReady => p.recomputeBypass
  | _ => p

/-- R164, R170: an edge is handed, whole, to the function rules of its line. An adoption gives no edge; that of the
COOLER_READY line is handed to the allocator. -/
def Ck4.handEdge (p : Ck4) (i : Nat) (f : InputFunction) (e : Edge) : Ck4 :=
  match e with
  | .active => p.activeEdge i f
  | .inactive => p.inactiveEdge i f
  | .adoption => if f == .coolerReady then p.recomputeBypass else p

/-- R163, R164: line `i` takes a qualified level; where it differs from the one it held, that is a qualified change. -/
def Ck4.qualify (p : Ck4) (i : Nat) (level : Level) : Ck4 :=
  let line := p.input i
  if line.qualified = some level then p
  else (p.setInput i { line with qualified := some level }).handEdge i line.function (edgeOf line level)

/-- R163: a sample confirms a level: with code 0 at once, else where it equals the previous sample. -/
def InputLine.confirms (line : InputLine) (level : Level) : Bool :=
  line.checkCode == 0 || (line.sampledAt.isSome && line.previous == level)

/-- R163: a line whose pin stands at `level` is sampled at the elapsed count `now`. -/
def InputLine.sample (line : InputLine) (level : Level) (now : Nat) : InputLine :=
  { line with pin := some level, raw := level, previous := level, sampledAt := some now }

/-- R163: one sample of line `i`. The first sample since power-on becomes both the raw level and the previous sample
(R162, R164). -/
def Ck4.sampleLine (p : Ck4) (i : Nat) (level : Level) : Ck4 :=
  let q := p.setInput i ((p.input i).sample level p.time.elapsed)
  if (p.input i).confirms level then q.qualify i level else q

/-- R163: the present elapsed count is a multiple of the line's check time at which it has not been sampled (log entry 23). -/
def InputLine.due (line : InputLine) (now : Nat) : Bool := now % checkTime line.checkCode == 0 && line.sampledAt != some now

/-- R163: a sample of line `i`, whose level has been delivered, is due. -/
def Ck4.sampleDue (p : Ck4) (i : Nat) : Bool := (p.input i).pin.isSome && (p.input i).due p.time.elapsed

/-- R163: line `i` is sampled at the level its pin stands at. -/
def Ck4.takeSample (p : Ck4) (i : Nat) : Ck4 :=
  match (p.input i).pin with
  | some level => p.sampleLine i level
  | none => p

/-- R163: a level is delivered at line `i`: it is sampled where a sample is due, and at the line's next multiple otherwise (log
entry 23). -/
def Ck4.inputLevel (p : Ck4) (i : Nat) (level : Level) : Ck4 :=
  if (p.input i).due p.time.elapsed then p.sampleLine i level else p.setInput i { p.input i with pin := some level }

/-- A qualified change delivered as an event: the samples that made it have been taken (log entry 23). -/
def Ck4.qualifiedChange (p : Ck4) (i : Nat) (level : Level) : Ck4 :=
  Ck4.qualify (p.setInput i ((p.input i).sample level p.time.elapsed)) i level

end Sys2Proof.Machine
end

