-- ==== Sys2Proof/Machine/Records.lean ====
section
/-! DEFINITION. Plant records: acceptance (R176, R198), source states (R177, R178), echoes (R181), and what the owning block
does with a record (R56, R30, R101 to R105, R119). -/

namespace Sys2Proof.Machine

/-! ### Controller reports (R102 to R105) -/

/-- R102: how a report is judged against the tracked state. -/
inductive Judgement where
  | consistent
  | completes
  | followed
  | corrected (k : OrderKind)
  | controllerTrip
  deriving DecidableEq, Repr

/-- R102: the table, for a machine record and a report. -/
def judge (r : MachineRecord) (report : Report) : Judgement :=
  match r.state, report with
  | .stopped, .stopped => .consistent
  | .stopped, .stopping => .consistent
  | .stopped, .tripped => .controllerTrip
  | .stopped, _ => .corrected .stop
  | .starting, .stopped => .consistent
  | .starting, .starting => .consistent
  | .starting, .runUnloaded => if r.startFailed then .consistent else .completes
  | .starting, .stopping => .corrected .start
  | .starting, .tripped => .controllerTrip
  | .starting, _ => .corrected .unload
  | .idle, .runUnloaded => .consistent
  | .idle, .loaded => .corrected .unload
  | .idle, .unloading => .corrected .unload
  | .idle, .tripped => .controllerTrip
  | .idle, _ => .followed
  | .loading, .runUnloaded => .consistent
  | .loading, .loaded => if r.firstLoadPlaced then .completes else .corrected .unload
  | .loading, .unloading => .corrected r.standing
  | .loading, .tripped => .controllerTrip
  | .loading, _ => .followed
  | .loaded, .loaded => .consistent
  | .loaded, .tripped => .controllerTrip
  | .loaded, _ => .followed
  | .unloading, .loaded => .consistent
  | .unloading, .unloading => .consistent
  | .unloading, .runUnloaded => .completes
  | .unloading, .tripped => .controllerTrip
  | .unloading, _ => .followed
  | .stopping, .stopped => .completes
  | .stopping, .starting => .corrected .stop
  | .stopping, .tripped => .controllerTrip
  | .stopping, _ => .consistent
  | .tripped, .stopped => .completes
  | .tripped, .starting => .corrected .trip
  | .tripped, _ => .consistent
  | .lockedOut, .stopped => .consistent
  | .lockedOut, .stopping => .consistent
  | .lockedOut, .tripped => .consistent
  | .lockedOut, _ => .corrected .trip

/-- R102: correcting becomes no. -/
def Ck4.endCorrection (p : Ck4) (m : MachineId) : Ck4 := p.setMach m { p.mach m with correcting := false }

/-- R93: a machine in STOPPING passes to STOPPED. -/
def Ck4.toStopped (p : Ck4) (m : MachineId) : Ck4 :=
  let q := p.transition m .stopped .stoppedReported
  q.setMach m { q.mach m with demand := .none }

/-- R86, R89, R93, R99: a report that completes a transition. -/
def Ck4.completeTransition (p : Ck4) (m : MachineId) : Ck4 :=
  match (p.mach m).state with
  | .starting => p.toIdle m .runReported
  | .loading => p.toLoaded m
  | .unloading => p.toIdle m .runReported
  | .stopping => p.toStopped m
  | .tripped => p.trippedStopped m
  | _ => p

/-- R103: a correction. -/
def Ck4.correct (p : Ck4) (m : MachineId) (k : OrderKind) (report : Report) : Ck4 :=
  let r := p.mach m
  let n := if k = .load then r.setpoint else 0
  if r.correcting then
    if r.phase.kind = some k && r.setpoint = n then p else p.placeMachine m k n
  else
    let q := p.placeMachine m k n
    (q.setMach m { q.mach m with correcting := true }).takeFault (unexpectedFault m r.state report)

/-- R104: a report that the table follows down. -/
def Ck4.followDown (p : Ck4) (m : MachineId) (report : Report) : Ck4 :=
  let r := p.mach m
  let q := if r.correcting then p else p.takeFault (unexpectedFault m r.state report)
  match report with
  | .unloading => q.transitionOrder m .unloading .unexpectedReport .unload
  | .runUnloaded => (q.transitionOrder m .unloading .unexpectedReport .unload).toIdle m .runReported
  | .stopped => (q.transitionOrder m .stopping .unexpectedReport .stop).toStopped m
  | _ => q.transitionOrder m .stopping .unexpectedReport .stop

/-- R101 step 4, R102: a report is judged against the tracked state. -/
def Ck4.judgeReport (p : Ck4) (m : MachineId) (report : Report) : Ck4 :=
  match judge (p.mach m) report with
  | .consistent => p.endCorrection m
  | .completes => (p.endCorrection m).completeTransition m
  | .followed => p.followDown m report
  | .corrected k => p.correct m k report
  | .controllerTrip => p.controllerTrip m

/-- R105: the first accepted record of a machine tracked as STOPPED. -/
def Ck4.adopt (p : Ck4) (m : MachineId) (report : Report) : Ck4 :=
  match report with
  | .stopped => p
  | .starting => p.transitionOrder m .stopping .adopted .stop
  | .stopping => p.transitionOrder m .stopping .adopted .stop
  | .runUnloaded => p.toIdle m .adopted
  | .tripped => p.controllerTrip m
  | _ =>
    if p.dirInService (otherDir (machineDir m)) then
      (p.takeFault (unexpectedFault m .stopped report)).transitionOrder m .stopping .adopted .stop
    else p.transitionOrder m .unloading .adopted .unload

/-- R101: a machine record accepted by the plant link. -/
def Ck4.machineRecord (p : Ck4) (m : MachineId) (report : Report) (power : Int) (inlet : Option Int) (totaliser : Nat) : Ck4 :=
  let r := p.mach m
  let p1 := p.setMach m { r with
    report := some report
    power := power
    inlet := if machineDir m = .discharge then inlet else none }
  let p2 := Ck4.handMargins p1 (p1.takeTotaliser m totaliser)
  if r.adopted then p2.judgeReport m report
  else
    let p3 := p2.setMach m { p2.mach m with adopted := true }
    if (p3.mach m).state == .stopped then p3.adopt m report else p3.judgeReport m report

/-! ### Vessel, cavern and grid records -/

/-- R56 step 1: valid layers take their reported temperatures. -/
def mergeLayers (held reported : List Int) (valid : List Bool) : List Int :=
  match held, reported, valid with
  | h :: hs, t :: ts, v :: vs => (if v then t else h) :: mergeLayers hs ts vs
  | _, _, _ => []

/-- R56: a vessel record accepted by the plant link; `echoed` is the comparison of R181. The route is taken at step 6, before
the eligibility of step 7, which is that of a vessel not engaged; what a route established frees, `establish` takes. -/
def Ck4.vesselRecord (p : Ck4) (v : VesselId) (route : Route) (valid : List Bool) (layers : List Int) (echoed : Bool) : Ck4 :=
  let r := p.vessel v
  let p1 := p.setVessel v { r with
    reported := true
    layers := substituteLayers (mergeLayers r.layers layers valid) valid
    valid := valid
    invalidCount := (valid.filter (· == false)).length }
  let p2 := (p1.testCondition v).refreshVessel v
  let p3 := (p2.setVessel v { p2.vessel v with route := route }).routeReported v echoed
  let p4 := if r.use.engaged then p3 else Ck4.takeEligible p p3
  Ck4.takeTurns p p4 v

/-- R30: a cavern record accepted by the plant link, from source entry `source`. Each change of a margin flag is handed to
the sequencer as it is made (R32). -/
def Ck4.cavernRecord (p : Ck4) (source : Nat) (pressure : Option Nat) (temperature : Option Int) : Ck4 :=
  let p1 := p.endFrozen
  let p2 := Ck4.handMargins p1 (p1.takeTemperature source temperature)
  let p3 := p2.takePressure source pressure
  Ck4.handMargins p3 p3.refreshDerived

/-- R119: a grid-meter record accepted by the plant link. -/
def Ck4.gridRecord (p : Ck4) (frequency : Option Nat) (exportKwh importKwh : Nat) : Ck4 :=
  { p with dispatch := { p.dispatch with
      frequency := frequency.or p.dispatch.frequency
      frequencySinceFresh := p.dispatch.frequencySinceFresh || frequency.isSome
      exportKwh := some exportKwh
      importKwh := some importKwh } }

/-! ### Source states (R177, R178) -/

/-- R27: the machine's totaliser baseline becomes absent. -/
def Ck4.dropBaseline (p : Ck4) (m : MachineId) : Ck4 :=
  { p with inventory := { p.inventory with baseline := p.inventory.baseline.set m none } }

/-- R177 step 1 for a machine source. -/
def Ck4.machineSource (p : Ck4) (m : MachineId) (s : SourceState) : Ck4 :=
  let q := p.setMach m { p.mach m with source := s }
  if s == .lost then q.dropBaseline m else q

/-- R119, R131: dispatch takes the meter state. -/
def Ck4.meterSource (p : Ck4) (s : SourceState) : Ck4 :=
  { p with dispatch := { p.dispatch with
      meter := s
      frequencySinceFresh := if s == .fresh then false else p.dispatch.frequencySinceFresh
      meterLost := p.dispatch.meterLost || s == .lost } }

/-- R177 step 1: a change of state is handed to the owning block of an entry's source. -/
def Ck4.handSource (p : Ck4) (e : SourceEntry) (s : SourceState) : Ck4 :=
  match e.kind with
  | .unused => p
  | .compressor => match e.machine with | some m => p.machineSource m s | none => p
  | .expander => match e.machine with | some m => p.machineSource m s | none => p
  | .vessel => match vesselOf e.unit with | some v => p.vesselSource v s | none => p
  | .cavern => if s == .fresh then p else p.freezeInventory
  | .gridMeter => p.meterSource s

/-- R177 step 3: the value of SOURCE_STATE. -/
def sourceValue (address : Nat) (old new : SourceState) : Nat :=
  65536 * address + 256 * sourceStateCode old + sourceStateCode new

/-- R177: steps 1 to 3 of a change of state of entry `i`, taken for the source that `e` names: the owners, the sequence, the
notice. -/
def Ck4.sourceChange (p : Ck4) (i : Nat) (e : SourceEntry) (s : SourceState) : Ck4 :=
  let q := (p.setSource i { p.source i with state := s }).handSource e s
  let q := if s == .lost then q.setSource i { q.source i with lastSequence := none } else q
  q.post .sourceState i (sourceValue e.address e.state s : Nat)

/-- R178: the LOST fault. -/
def lostFault (i : Nat) (e : SourceEntry) : FaultReport :=
  ⟨.port, .lost, i, (e.address : Nat),
    if e.kind = .compressor || e.kind = .expander then .machine else .warn, true⟩

/-- R177: the age of a source. -/
def Ck4.age (p : Ck4) (e : SourceEntry) : Option Nat := e.arrival.map fun a => p.time.elapsed - a

/-- R177: the age of entry `i` reaches t_stale. -/
def Ck4.sourceToStale (p : Ck4) (i : Nat) : Ck4 :=
  let e := p.source i
  if e.kind != .unused && e.state == .fresh && p.tStale e.kind != p.tLost e.kind then p.sourceChange i e .stale else p

/-- R177, R178: the age of entry `i` reaches t_lost. -/
def Ck4.sourceToLost (p : Ck4) (i : Nat) : Ck4 :=
  let e := p.source i
  if e.kind != .unused && (e.state == .stale || (e.state == .fresh && p.tStale e.kind == p.tLost e.kind)) then
    (p.sourceChange i e .lost).takeFault (lostFault i e)
  else p

/-! ### Acceptance (R176, R198) -/

/-- 12.2: the frame kind and payload length of a source kind's measurement record. -/
def recordForm (k : SourceKind) : Option (Byte × Nat) :=
  match k with
  | .unused => none
  | .compressor => some (0x50#8, 13)
  | .expander => some (0x50#8, 13)
  | .vessel => some (0x51#8, 31)
  | .cavern => some (0x52#8, 7)
  | .gridMeter => some (0x53#8, 15)

/-- 12.2, R198: the route that a vessel record reports, where its codes are good. -/
def reportedRoute (code machine : Nat) : Option Route :=
  match code with
  | 0 => some .none
  | 1 => (machineOf machine).map .charge
  | 2 => (machineOf machine).map .discharge
  | _ => none

/-- R198: the codes of a measurement record. -/
def codesGood (k : SourceKind) (payload : List Byte) : Bool :=
  match k with
  | .compressor => (reportOf (field payload 3 1)).isSome
  | .expander => (reportOf (field payload 3 1)).isSome
  | .vessel => (reportedRoute (field payload 3 1) (field payload 4 1)).isSome && field payload 5 2 < 4096
  | _ => true

/-- R176: the in-use entry whose address a frame names. -/
def Ck4.entryAt (p : Ck4) (address : Nat) : Option Nat :=
  p.plantLink.sources.findIdx? fun e => e.kind != .unused && e.address == address

/-- R176 checks 1 to 3, R198: the source of a frame. -/
def Ck4.sourceOf (p : Ck4) (f : PlantFrame) : Option Nat :=
  match f.payload with
  | [] => none
  | a :: _ =>
    match p.entryAt a.toNat with
    | none => none
    | some i =>
      match recordForm (p.source i).kind with
      | none => none
      | some (kind, length) =>
        if f.kind = kind && f.payload.length = length && codesGood (p.source i).kind f.payload then some i else none

/-- R181: the echo of a record is compared with its destination's slot; the comparison itself is returned. -/
def Ck4.compareEcho (p : Ck4) (d : Dest) (echo : Nat) : Bool × Ck4 :=
  let s := p.slot d
  if s.status != .empty && s.sequence == some echo then
    if s.status == .confirmed then (true, p)
    else
      let q := p.setSlot d { s with status := .confirmed, confirmTimer := none, repeatTimer := none }
      let q := { q with plantLink := { q.plantLink with transmitList := q.plantLink.transmitList.filter (· != d) } }
      match d with
      | .machine m => (true, q.setMach m { q.mach m with phase := { (q.mach m).phase with confirmed := true } })
      | .vessel _ => (true, q)
  else (false, p)

/-- 12.2: the twelve valid flags of a mask. -/
def maskFlags (mask : Nat) : List Bool := (List.range 12).map fun i => mask.testBit i

/-- 12.2: the twelve layers of a vessel record. -/
def layersOf (payload : List Byte) : List Int := (List.range 12).map fun i => signedField payload (7 + 2 * i) 2

/-- R176 steps 3 and 4: an accepted record of entry `i` is compared and handed to its owner. -/
def Ck4.handRecord (p : Ck4) (i : Nat) (payload : List Byte) : Ck4 :=
  let e := p.source i
  let flags := field payload 4 1
  match e.kind with
  | .vessel =>
    match vesselOf e.unit, reportedRoute (field payload 3 1) (field payload 4 1) with
    | some v, some route =>
      let c := p.compareEcho (.vessel v) (field payload 2 1)
      c.2.vesselRecord v route (maskFlags (field payload 5 2)) (layersOf payload) c.1
    | _, _ => p
  | .cavern =>
    p.cavernRecord i
      (if (field payload 2 1).testBit 0 then some (field payload 3 2) else none)
      (if (field payload 2 1).testBit 1 then some (signedField payload 5 2) else none)
  | .gridMeter =>
    p.gridRecord (if (field payload 2 1).testBit 0 then some (field payload 3 4) else none) (field payload 7 4) (field payload 11 4)
  | _ =>
    match e.machine, reportOf (field payload 3 1) with
    | some m, some report =>
      let c := p.compareEcho (.machine m) (field payload 2 1)
      c.2.machineRecord m report (signedField payload 5 2)
        (if flags.testBit 0 then some (signedField payload 11 2) else none) (field payload 7 4)
    | _, _ => p

/-- R176: a record of entry `i` is accepted. -/
def Ck4.acceptRecord (p : Ck4) (i : Nat) (payload : List Byte) : Ck4 :=
  let e := p.source i
  let p1 := p.setSource i { e with
    lastSequence := some (payload.getD 1 0), arrival := some p.time.elapsed, held := some payload }
  let p2 := if e.state == .fresh then p1 else p1.sourceChange i e .fresh
  p2.handRecord i payload

/-- R175, R176: a 16-bit link counter is increased by 1. -/
def bump (n : Nat) : Nat := saturate 65535 (n + 1)

/-- R176: a frame taken from the receive queue. -/
def Ck4.takeFrame (p : Ck4) (f : PlantFrame) : Ck4 :=
  match p.sourceOf f with
  | none => { p with plantLink := { p.plantLink with rejects := bump p.plantLink.rejects } }
  | some i =>
    if (p.source i).lastSequence = some (f.payload.getD 1 0) then
      { p with plantLink := { p.plantLink with duplicates := bump p.plantLink.duplicates } }
    else p.acceptRecord i f.payload

end Sys2Proof.Machine
end

