-- ==== Sys2Proof/Machine/PlantEvents.lean ====
section
/-! DEFINITION. The plant link's own events: frames received (R175), the transmitter (R180), repetition and confirmation of
orders (R180, R182). -/

namespace Sys2Proof.Machine

/-- R175: the plant receiver hunts for the first sync byte, with no frame in progress. -/
def Ck4.huntPlant (p : Ck4) : Ck4 :=
  { p with plantLink := { p.plantLink with phase := .hunt, inProgress := none, lastByte := none } }

/-- R175: a frame is abandoned or discarded, and the framing-error counter counts it. -/
def Ck4.framingError (p : Ck4) : Ck4 :=
  let q := p.huntPlant
  { q with plantLink := { q.plantLink with framingErrors := bump q.plantLink.framingErrors } }

/-- R175: the plant receiver takes a phase at the present moment. -/
def Ck4.setPlantPhase (p : Ck4) (phase : ReceiverPhase) (bytes : Option (List Byte)) : Ck4 :=
  { p with plantLink := { p.plantLink with phase := phase, inProgress := bytes, lastByte := some p.time.elapsed } }

/-- R175: a frame that passes its checks is placed in the receive queue, or dropped where the queue is full. -/
def Ck4.queueFrame (p : Ck4) (f : PlantFrame) : Ck4 :=
  if p.plantLink.queue.length < Config.receiveQueueSize then
    { p with plantLink := { p.plantLink with queue := p.plantLink.queue ++ [f] } }
  else { p with plantLink := { p.plantLink with drops := bump p.plantLink.drops } }

/-- R175: a frame whose bytes, from its length to its CRC, are all held. -/
def Ck4.plantFrameHeld (p : Ck4) (bytes : List Byte) : Ck4 :=
  if frameGood bytes then p.huntPlant.queueFrame ⟨bytes.getD 2 0, (bytes.drop 4).take (field bytes 0 2)⟩ else p.framingError

/-- R175: the gap since the last byte exceeds 10 ms. -/
def Ck4.plantGapExceeded (p : Ck4) : Bool := gapOver p.plantLink.phase p.plantLink.lastByte p.time.elapsed

/-- R175: the gap abandons a frame in progress, which is counted; where only the sync has been seen, the receiver hunts again
(log entry 10). -/
def Ck4.plantGap (p : Ck4) : Ck4 := if p.plantLink.inProgress.isSome then p.framingError else p.huntPlant

/-- R175: the plant receiver takes a byte by its phase, as the station receiver does (R185). -/
def Ck4.receivePlantByte (p : Ck4) (b : Byte) : Ck4 :=
  match framing p.plantLink.phase p.plantLink.inProgress b with
  | .ignored => p
  | .unsynced => p.huntPlant
  | .takes phase bytes => p.setPlantPhase phase bytes
  | .tooLong => p.framingError
  | .held bytes => p.plantFrameHeld bytes

/-- R175: a byte arrives on the plant link; a frame in progress whose gap has been exceeded is abandoned first (log entry 24). -/
def Ck4.plantByte (p : Ck4) (b : Byte) : Ck4 := (if p.plantGapExceeded then p.plantGap else p).receivePlantByte b

/-- R175: bytes arrive on the plant link at one moment, in their order (log entry 10). -/
def Ck4.plantFrame (p : Ck4) (bytes : List Byte) : Ck4 := bytes.foldl Ck4.plantByte p

/-- R176: the oldest frame leaves the receive queue and is taken. -/
def Ck4.takeOldest (p : Ck4) : Ck4 :=
  match p.plantLink.queue with
  | [] => p
  | f :: rest => Ck4.takeFrame { p with plantLink := { p.plantLink with queue := rest } } f

/-- R180: the slot of a frame whose last byte has left. -/
def Slot.frameSent (s : Slot) (replaced : Bool) (repeatTime : Nat) : Slot :=
  { s with
    transmissions := saturate 65535 (s.transmissions + 1)
    status := if s.status = .waiting && !replaced then .sent else s.status
    repeatTimer := if s.status = .confirmed then s.repeatTimer else some repeatTime }

/-- R180: the last byte of the frame in transmission has left. A frame in transmission at a warm restart changes no slot. -/
def Ck4.orderSent (p : Ck4) : Ck4 :=
  match p.plantLink.transmission with
  | none => p
  | some t =>
    let q := { p with plantLink := { p.plantLink with transmission := none } }
    if t.released then q else q.setSlot t.dest ((q.slot t.dest).frameSent t.replaced p.orderRepeat)

/-- R180: the repeat timer of a slot expires, and the slot becomes due. -/
def Ck4.repeatDue (p : Ck4) (d : Dest) : Ck4 :=
  if (p.slot d).repeatTimer.isSome then
    let q := p.setSlot d { p.slot d with repeatTimer := none }
    { q with plantLink := { q.plantLink with transmitList := enlist q.plantLink.transmitList d } }
  else p

/-- R182: the ORDER_UNCONFIRMED fault of an order, with the index of its destination's source entry. -/
def unconfirmedFault (d : Dest) (o : Option Order) (index : Nat) : FaultReport :=
  match d, o with
  | .machine m, _ => ⟨.port, .orderUnconfirmed, machineIndex m, (index : Nat), .machine, true⟩
  | .vessel _, some (.route (.charge m)) => ⟨.port, .orderUnconfirmed, machineIndex m, (index : Nat), .unload, true⟩
  | .vessel _, some (.route (.discharge m)) => ⟨.port, .orderUnconfirmed, machineIndex m, (index : Nat), .unload, true⟩
  | .vessel _, _ => ⟨.port, .orderUnconfirmed, 255, (index : Nat), .warn, true⟩

/-- R182: the confirm timer of a slot expires. -/
def Ck4.confirmTimeout (p : Ck4) (d : Dest) : Ck4 :=
  if (p.slot d).confirmTimer.isSome then
    let q := p.setSlot d { p.slot d with confirmTimer := none, status := .unconfirmed }
    let i := p.sourceIndexOf d
    if (p.source i).state == .lost then q else q.takeFault (unconfirmedFault d (p.slot d).order i)
  else p

/-- R177: the thresholds of entry `i` are judged against its age, first t_stale, then t_lost. -/
def Ck4.judgeAge (p : Ck4) (i : Nat) : Ck4 :=
  match p.age (p.source i) with
  | none => p
  | some a =>
    let q := if a ≥ p.tStale (p.source i).kind then p.sourceToStale i else p
    if a ≥ p.tLost (p.source i).kind then q.sourceToLost i else q

end Sys2Proof.Machine
end

