-- ==== Sys2Proof/Machine/Sections.lean ====
section
/-! DEFINITION. The constants store: the ranges of the seven sections (R193), what a completed store hands to each block
(R26, R56, R165, R173, R174), and start-up (R192). -/

namespace Sys2Proof.Machine

/-! ### Ranges (R193) -/

/-- R200: the number of values of a section. -/
def sectionSize (s : SectionId) : Nat :=
  match s with
  | .cavern => 10
  | .energy => 4
  | .machines => 21
  | .vessels => 13
  | .market => 4
  | .port => 84
  | .lines => 64

/-- Value `i` of a section lies in a range. -/
def within (vs : List Int) (i : Nat) (lo hi : Int) : Bool := lo ≤ vs.getD i 0 && vs.getD i 0 ≤ hi

/-- 02 section 2.2: the CAVERN ranges. The table bounds p_min below and p_max above, and their difference. -/
def cavernRanges (vs : List Int) : Bool :=
  within vs 0 10000 10000000 && within vs 1 250000 320000 && within vs 2 1000 30000 && within vs 3 1000 30000 &&
  vs.getD 3 0 - vs.getD 2 0 ≥ 500 && within vs 4 0 1000 && within vs 5 10 2000 && within vs 6 5 500 &&
  within vs 7 2 6 && within vs 8 2 32 && within vs 9 1 10000000

/-- 02 section 2.2: the ENERGY ranges. -/
def energyRanges (vs : List Int) : Bool := (List.range 4).all fun i => within vs i 100 5000

/-- 04 section 4.1, R112: the MACHINES ranges. -/
def machineRanges (vs : List Int) : Bool :=
  ((List.range 5).all fun i =>
    within vs (3 * i) 1 32767 && within vs (3 * i + 1) 0 (vs.getD (3 * i) 0) && within vs (3 * i + 2) 60 1800) &&
  within vs 15 0 36000 && within vs 16 0 36000 && within vs 17 0 3600 && within vs 18 0 3600 && within vs 19 1 1000 &&
  within vs 20 0 32767

/-- 03 section 3.1: the VESSELS ranges and the temperature order. -/
def vesselRanges (vs : List Int) : Bool :=
  ((List.range 8).all fun i => within vs i 10 50000) &&
  within vs 8 (-2730) 32767 && within vs 9 (-2730) 32767 && within vs 10 (-2730) 32767 && within vs 11 (-2730) 32767 &&
  vs.getD 9 0 > vs.getD 8 0 && vs.getD 10 0 > vs.getD 8 0 && vs.getD 10 0 ≤ vs.getD 11 0 && vs.getD 11 0 ≥ vs.getD 9 0 &&
  within vs 12 10 600

/-- R6, R112: the MARKET ranges. -/
def marketRanges (vs : List Int) : Bool :=
  within vs 0 1 16 && (vs.getD 1 0 == 50000 || vs.getD 1 0 == 60000) && within vs 2 0 1000 &&
  within vs 3 (vs.getD 2 0 + 1) 5000

/-- A source entry as the PORT section gives it. -/
structure PortEntry where
  address : Int
  kind : Int
  unit : Int
  deriving DecidableEq, Repr

/-- The 24 entries of a PORT section, in index order. -/
def portEntries (vs : List Int) : List PortEntry :=
  (List.range 24).map fun i => ⟨vs.getD (3 * i) 0, vs.getD (3 * i + 1) 0, vs.getD (3 * i + 2) 0⟩

/-- 09 section 9.1, R173: an entry uses no address, kind or unit outside the table (log entry 14). -/
def PortEntry.valid (e : PortEntry) : Bool :=
  if e.kind = 0 then e.address == 0 && e.unit == 0
  else
    1 ≤ e.address && e.address ≤ 254 &&
    (if e.kind = 1 then 1 ≤ e.unit && e.unit ≤ 3
     else if e.kind = 2 then 1 ≤ e.unit && e.unit ≤ 2
     else if e.kind = 3 then 0 ≤ e.unit && e.unit ≤ 7
     else (e.kind == 4 || e.kind == 5) && e.unit == 0)

/-- 09 section 9.1: the fifteen sources of the plant, by kind code and unit. -/
def plantSources : List (Int × Int) :=
  [(1, 1), (1, 2), (1, 3), (2, 1), (2, 2), (3, 0), (3, 1), (3, 2), (3, 3), (3, 4), (3, 5), (3, 6), (3, 7), (4, 0), (5, 0)]

/-- No two elements of a list are equal. -/
def noRepeats (l : List Int) : Bool :=
  match l with
  | [] => true
  | x :: rest => !(x ∈ rest) && noRepeats rest

/-- R174: the PORT ranges and the assignment rules. -/
def portRanges (vs : List Int) : Bool :=
  let es := portEntries vs
  es.all PortEntry.valid &&
  plantSources.all (fun s => (es.filter fun e => e.kind == s.1 && e.unit == s.2).length == 1) &&
  noRepeats ((es.filter fun e => e.kind != 0).map PortEntry.address) &&
  ((List.range 5).all fun i => within vs (72 + i) 100 5000 && within vs (77 + i) (vs.getD (72 + i) 0) 30000) &&
  within vs 82 200 2000 && within vs 83 1 30

/-- R165, R171: the LINES ranges; a function other than NONE is assigned to at most one input line. -/
def lineRanges (vs : List Int) : Bool :=
  ((List.range 16).all fun i => within vs (3 * i) 0 15 && within vs (3 * i + 1) 0 1 && within vs (3 * i + 2) 0 7) &&
  noRepeats (((List.range 16).map fun i => vs.getD (3 * i) 0).filter (· != 0)) &&
  ((List.range 8).all fun i => within vs (48 + 2 * i) 0 7 && within vs (49 + 2 * i) 0 1)

/-- R193: the range check of a section's values. -/
def sectionRanges (s : SectionId) (vs : List Int) : Bool :=
  match s with
  | .cavern => cavernRanges vs
  | .energy => energyRanges vs
  | .machines => machineRanges vs
  | .vessels => vesselRanges vs
  | .market => marketRanges vs
  | .port => portRanges vs
  | .lines => lineRanges vs

/-! ### The LINES and PORT sections in force -/

/-- R165: the function, polarity and check-time code of input `i` that the LINES section gives; the rest is kept. -/
def InputLine.assign (l : InputLine) (vs : List Int) (i : Nat) : InputLine :=
  { l with function := inputFunctionOf (vs.getD (3 * i) 0), polarity := polarityOf (vs.getD (3 * i + 1) 0)
           checkCode := (vs.getD (3 * i + 2) 0).toNat }

/-- R171: the function and polarity of output `i`. -/
def OutputLine.assign (l : OutputLine) (vs : List Int) (i : Nat) : OutputLine :=
  { l with function := outputFunctionOf (vs.getD (48 + 2 * i) 0), polarity := polarityOf (vs.getD (49 + 2 * i) 0) }

/-- Each element of a list with its index, from `i`. -/
def mapFrom {α : Type} (f : α → Nat → α) (i : Nat) (l : List α) : List α :=
  match l with
  | [] => []
  | x :: rest => f x i :: mapFrom f (i + 1) rest

/-- R165: the lines under the values of a LINES section. -/
def LineUnit.assign (u : LineUnit) (vs : List Int) : LineUnit :=
  ⟨mapFrom (fun l i => l.assign vs i) 0 u.inputs, mapFrom (fun l i => l.assign vs i) 0 u.outputs⟩

/-- R173: entry `i` as the PORT section gives it, with nothing heard. -/
def newEntry (vs : List Int) (i : Nat) : SourceEntry :=
  { address := (vs.getD (3 * i) 0).toNat, kind := sourceKindOf (vs.getD (3 * i + 1) 0), unit := (vs.getD (3 * i + 2) 0).toNat
    state := .lost, lastSequence := none, arrival := none, held := none }

/-- R174: entry `i` meets the entry that a PORT store gives it. -/
def Ck4.reassign (p : Ck4) (vs : List Int) (i : Nat) : Ck4 :=
  let e := p.source i
  let n := newEntry vs i
  if e.address = n.address && e.kind = n.kind && e.unit = n.unit then p
  else
    let q := p.setSource i { n with state := e.state }
    if e.state == .lost then q else q.sourceChange i e .lost

/-- R173: the confirm timer of a slot in WAITING starts. -/
def Slot.startConfirm (s : Slot) (ms : Nat) : Slot := if s.status = .waiting then { s with confirmTimer := some ms } else s

/-- R173: a store makes the PORT section good: the confirm timer of each slot in WAITING starts. -/
def Ck4.startConfirms (p : Ck4) : Ck4 :=
  allDests.foldl (fun q d => q.setSlot d ((q.slot d).startConfirm (1000 * p.orderConfirm))) p

/-- R173, R174: a store of the PORT section completes. The model's choice (log entry 42): confirm and repeat timers that run
already keep the time they have left, and the new values are those of the timers started from then on. -/
def Ck4.portStored (p : Ck4) (vs : List Int) (wasGood : Bool) : Ck4 :=
  let q := (List.range 24).foldl (fun q i => q.reassign vs i) (if wasGood then p else p.startConfirms)
  (List.range 24).foldl (fun q i => q.judgeAge i) q

/-- R26: a store of the CAVERN or ENERGY section completes; each change of a margin is handed on (R32). -/
def Ck4.inventoryStored (p : Ck4) : Ck4 := Ck4.handMargins p (Ck4.refreshDerived p.refreshLimits)

/-- R56 steps 2 to 5 for one vessel at a VESSELS store, from the held temperatures and flags (log entry 21). -/
def Ck4.restoreFigures (p : Ck4) (v : VesselId) : Ck4 :=
  let r := p.vessel v
  let q := p.setVessel v { r with layers := substituteLayers r.layers r.valid }
  (if r.reported then q.testCondition v else q).refreshVessel v

/-- R56: a store of the VESSELS section completes: the figures of every vessel, then step 7 of each (log entry 21). -/
def Ck4.vesselsStored (p : Ck4) : Ck4 :=
  let q := Ck4.takeEligible p (allVessels.foldl Ck4.restoreFigures p)
  allVessels.foldl (fun r v => Ck4.takeTurns p r v) q

/-- R165: a store of the LINES section completes. -/
def Ck4.linesStored (p : Ck4) (vs : List Int) : Ck4 := Ck4.recomputeBypass { p with lines := p.lines.assign vs }

/-- R112: a store of the MACHINES section completes: dispatch goes on using the values it had until its next cycle, where it
had any (log entry 39). -/
def Ck4.machinesStored (p : Ck4) (old : SectionImage) : Ck4 :=
  if old.good && p.dispatch.held.isNone then { p with dispatch := { p.dispatch with held := some old.values } } else p

/-- R193 step 3: the new values are handed to their readers; `old` is what the section held before the store. -/
def Ck4.handSection (p : Ck4) (s : SectionId) (vs : List Int) (old : SectionImage) : Ck4 :=
  match s with
  | .cavern => p.inventoryStored
  | .energy => p.inventoryStored
  | .machines => p.machinesStored old
  | .vessels => p.vesselsStored
  | .market => p
  | .port => p.portStored vs old.good
  | .lines => p.linesStored vs

/-- 11, opening: the seven sections in code order. -/
def allSections : List SectionId := [.cavern, .energy, .machines, .vessels, .market, .port, .lines]

/-- R192: every section has a good CRC. -/
def Ck4.allGood (p : Ck4) : Bool := allSections.all p.good

/-- R192: the mode after a completed store. -/
def Ck4.leaveUnconfigured (p : Ck4) : Ck4 := if p.mode == .unconfigured && p.allGood then p.changeMode .standby else p

/-- R193: the store in flight completes. -/
def Ck4.completeStore (p : Ck4) : Ck4 :=
  match p.constants.store with
  | none => p
  | some st =>
    let crc := sectionCrc st.values
    let q := { p with constants := { p.constants with
      sections := p.constants.sections.set st.sect ⟨st.values, crc, true⟩, store := none } }
    ((q.handSection st.sect st.values (p.constants.sections.get st.sect)).post .constantsStored (sectionCode st.sect) (crc.toNat : Nat)).leaveUnconfigured

/-! ### Start-up (R192) -/

/-- R193: a section whose store was cut by the loss of power. -/
def cutStore (s : Sections) (store : Option StoreInFlight) : Sections :=
  match store with
  | none => s
  | some st => s.set st.sect { s.get st.sect with values := [], crc := 0, good := false }

/-- R192: the CRC of a section is checked at power-on. -/
def SectionImage.check (x : SectionImage) (size : Nat) : SectionImage :=
  { x with good := x.values.length == size && x.crc == sectionCrc x.values }

/-- R192: every section's CRC is checked at power-on. -/
def checkSections (s : Sections) : Sections :=
  allSections.foldl (fun t id => t.set id ((t.get id).check (sectionSize id))) s

/-- R109: a slot whose save was cut by the loss of power: its CRC is bad. -/
def SaveSlot.cut (s : SaveSlot) : SaveSlot :=
  { s with crc := ~~~ crc16 (slotBytes s.number s.time s.counters) }

/-- R109: the non-volatile memory that the power-on finds: a store or a save in flight leaves its place bad. -/
def Ck4.powerLoss (p : Ck4) : Sections × SaveSlot × SaveSlot :=
  let s := checkSections (cutStore p.constants.sections p.constants.store)
  match p.sequencer.save with
  | none => (s, p.constants.slotA, p.constants.slotB)
  | some x => if x.slot then (s, p.constants.slotA, p.constants.slotB.cut) else (s, p.constants.slotA.cut, p.constants.slotB)

/-- R109: the slot that a power-on restores from: the good one of greater save number. -/
def restoreFrom (a b : SaveSlot) : Option SaveSlot :=
  match a.good, b.good with
  | false, false => none
  | true, false => some a
  | false, true => some b
  | true, true => if a.number ≤ b.number then some b else some a

/-- R109: the sequencer after a power-on reset. -/
def restoredSequencer (a b : SaveSlot) : Sequencer :=
  match restoreFrom a b with
  | none => .powerOn (.all .zero) false none
  | some s => .powerOn s.counters true (some ⟨s.number, s.time⟩)

/-- R165, R192: the lines after a power-on reset. -/
def startLines (s : Sections) : LineUnit :=
  if s.lines.good then LineUnit.powerOn.assign s.lines.values else .powerOn

/-- R173, R192: the plant link after a power-on reset. -/
def startLink (s : Sections) : PlantLink :=
  if s.port.good then { PlantLink.powerOn with sources := (List.range 24).map (newEntry s.port.values) } else .powerOn

/-- R192: the plant mode after a power-on reset. -/
def startMode (s : Sections) : Mode := if allSections.all fun id => (s.get id).good then .standby else .unconfigured

/-- R192 and the reset columns of R2, R18, R25, R54, R55, R81, R112, R135, R154, R162, R173, R175, R179, R184: the part
after a power-on reset that finds the given non-volatile memory. -/
def startUp (s : Sections) (a b : SaveSlot) : Ck4 :=
  { Ck4.blank with
    sequencer := restoredSequencer a b
    lines := startLines s
    plantLink := startLink s
    constants := { sections := s, store := none, mode := startMode s, slotA := a, slotB := b } }

/-- A power-on reset. -/
def Ck4.powerOnReset (p : Ck4) : Ck4 := startUp p.powerLoss.1 p.powerLoss.2.1 p.powerLoss.2.2

end Sys2Proof.Machine
end

