-- ==== Sys2Proof/Machine/Restart.lean ====
section
/-! DEFINITION. The warm restart (R195), block by block in its order: station link (R188), plant link (R175, R179), allocator
(R77), sequencer (R96), schedule (R17), then the plant mode. -/

namespace Sys2Proof.Machine

/-- R188: what the station link discards. -/
def Ck4.restartStation (p : Ck4) : Ck4 :=
  { p with station := { p.station with
      phase := .hunt, inProgress := none, lastByte := none, queue := [], busyReply := none, headReply := none, tx := .idle, sending := none
      notices := [], attentionPending := false, restartAsked := false } }

/-- R179: a slot at a warm restart; the last sequence given is kept. -/
def Slot.clear (s : Slot) : Slot := { Slot.powerOn with lastGiven := s.lastGiven }

/-- R175, R179, R180: the plant link at a warm restart. -/
def Ck4.restartLink (p : Ck4) : Ck4 :=
  let q := allDests.foldl (fun q d => q.setSlot d (q.slot d).clear) p
  { q with plantLink := { q.plantLink with
      queue := [], phase := .hunt, inProgress := none, lastByte := none, transmitList := []
      transmission := q.plantLink.transmission.map fun t => { t with released := true } } }

/-- R77: a machine's target is given up at a warm restart, an outgoing vessel returns to its use, and the switchover cause
and timer are cleared. -/
def Ck4.restartBinding (p : Ck4) (m : MachineId) : Ck4 :=
  let b := p.binding m
  let q := if b.target.isSome then (p.freeVessel? b.target).restoreBound m else p
  q.setBinding m { b with target := none, cause := none, timer := none }

/-- R55, R77: the allocator at a warm restart. The order in which it takes the machines, and so places their NONE routes, is the
model's choice (log entry 40): index order. -/
def Ck4.restartAllocator (p : Ck4) : Ck4 := (allMachines.foldl Ck4.restartBinding p).recomputeBypass

/-- R96 step 1. -/
def Ck4.clearOrders (p : Ck4) : Ck4 :=
  allMachines.foldl (fun q m => q.setMach m { q.mach m with
    phase := ⟨none, 0, false⟩, setpoint := 0, loadPending := false, correcting := false, controllerTripHanded := false }) p

/-- R96 step 2: one machine is taken up; `firstLoad` says whether its first LOAD had been placed. -/
def Ck4.takeUp (p : Ck4) (m : MachineId) (firstLoad : Bool) : Ck4 :=
  match (p.mach m).state with
  | .stopped => p
  | .starting =>
    if (p.mach m).startFailed then p
    else (p.setMach m { p.mach m with startTimer := some (1000 * p.startLimit m) }).placeMachine m .start 0
  | .idle => p
  | .loading => if firstLoad then p.transitionOrder m .unloading .restart .unload else p.transition m .idle .restart
  | .loaded => p.transitionOrder m .unloading .restart .unload
  | .unloading => p.placeMachine m .unload 0
  | .stopping => p.placeMachine m .stop 0
  | .tripped => p.placeMachine m .trip 0
  | .lockedOut => p.placeMachine m .trip 0

/-- R96 steps 1 and 2; the machines are taken up in index order (the model's choice, log entry 40). -/
def Ck4.restartSequencer (p : Ck4) : Ck4 :=
  allMachines.foldl (fun q m => q.takeUp m (p.mach m).firstLoadPlaced) p.clearOrders

/-- R195: the mode after a warm restart. -/
def Ck4.restartMode (p : Ck4) : Ck4 :=
  if p.mode == .shutdown || p.mode == .unconfigured then p else p.changeMode .standby

/-- R112, R195: a warm restart. -/
def Ck4.warmRestart (p : Ck4) : Ck4 :=
  let q := p.restartStation.restartLink.restartAllocator.restartSequencer
  let q := { q with schedule := { q.schedule with staging := none }, dispatch := { q.dispatch with manualTarget := 0 } }
  q.restartMode

end Sys2Proof.Machine
end

