-- ==== Sys2Proof/Machine/Replies.lean ====
section
/-! DEFINITION. What each reading request answers (R24, R53, R80, R110, R111, R133, R134, R152, R161, R172, R183, R193,
R196). A reading changes nothing. -/

namespace Sys2Proof.Machine

/-- R187: a reply with status OK. -/
def okWith (c : Content) : Answer := ⟨.ok, c⟩

/-- R187: a reply with status OK and nothing more. -/
def ok : Answer := ⟨.ok, .none⟩

/-- R187: a refusal that carries the status byte alone. -/
def refuse (s : Status) : Answer := ⟨s, .none⟩

/-- The number of machines in a state (R150, R196). -/
def Ck4.countIn (p : Ck4) (s : MachineState) : Nat := (allMachines.filter fun m => (p.mach m).state == s).length

/-- R196: Identify. -/
def identifyAnswer : Answer :=
  okWith (.identity { vendor := Config.vendorCode, part := Config.partCode, revision := Config.siliconRevision, trains := 3
                      strings := 2, vessels := 8, layers := 12, windows := 16, faultRecords := 16, notices := 32, sources := 24
                      inputs := 16, outputs := 8, settlements := 16, maxPayload := Config.maxPayload, reserve := true
                      bypass := true, stagedLoad := true })

/-- R196: ReadStatus. -/
def Ck4.readStatusAnswer (p : Ck4) : Answer :=
  okWith (.status { mode := p.mode, good := allSections.map p.good, storeInFlight := p.constants.store.isSome
                    restored := p.sequencer.restored, timeValid := p.time.valid, tripInProgress := p.protection.tripInProgress
                    shutdown := p.protection.shutdown, inventory := p.inventory.state, notices := p.station.notices.length
                    attentionPending := p.station.attentionPending, masked := p.station.masked
                    tripped := p.countIn .tripped, lockedOut := p.countIn .lockedOut })

/-- R193: ReadConstants; a section with a bad CRC gives no values (R192). -/
def Ck4.readConstantsAnswer (p : Ck4) (sect : Nat) : Answer :=
  match sectionOf sect with
  | none => refuse .argRange
  | some s =>
    let x := p.constants.sections.get s
    okWith (.constants { values := if x.good then x.values else [], good := x.good, storeInFlight := p.constants.store.isSome })

/-- R161: the highest absolute index below `n` whose record is fixed. -/
def Schedule.highestFixed (s : Schedule) (n : Nat) : Option Nat :=
  match n with
  | 0 => none
  | n + 1 => if !(s.record n).status.writable then some n else s.highestFixed n

/-- R161: ReadTime. -/
def Ck4.readTimeAnswer (p : Ck4) : Answer :=
  okWith (.time { valid := p.time.valid, endOfRange := p.time.endOfRange, day := p.time.day, second := p.time.second, ms := p.time.ms
                  active := p.active, remaining := if p.time.valid then p.remaining else 0, lead := p.gateLead
                  highestFixed := p.schedule.highestFixed 192, elapsedSeconds := p.time.elapsed / 1000
                  lastStep := p.time.lastStep })

/-- R24: the record of index `i` within a day whose first absolute index is `base`. -/
def Ck4.intervalReading (p : Ck4) (a base i : Nat) : IntervalReading :=
  ⟨i, p.schedule.record (base + i), (p.projectedResolution a (base + i)).power⟩

/-- R24: ReadIntervals. -/
def Ck4.readIntervalsAnswer (p : Ck4) (day i : Nat) : Answer :=
  match p.active with
  | none => refuse .timeInvalid
  | some a =>
    match p.schedule.pageBase day with
    | none => refuse .argRange
    | some base =>
      if i ≤ 95 then
        okWith (.intervals ((List.range 4).map fun j => p.intervalReading a base (i / 4 * 4 + (i + j) % 4)))
      else refuse .argRange

/-- R20: ReadWindows. -/
def Ck4.readWindowsAnswer (p : Ck4) : Answer := okWith (.windows p.schedule.windows)

/-- R133: ReadSettlements. -/
def Ck4.readSettlementsAnswer (p : Ck4) : Answer := okWith (.settlements p.dispatch.log.length p.dispatch.log)

/-- R134: ReadDispatch. -/
def Ck4.readDispatchAnswer (p : Ck4) : Answer :=
  let d := p.dispatch
  okWith (.dispatch { t0 := d.t0, up := d.t0Up, down := d.t0Down, s := d.s, gear := d.gear, rampStep := p.rampStep
                      manualTarget := d.manualTarget, frequency := d.frequency, meter := d.meter, pRes := d.pRes, f := d.f
                      clamp := d.clamp, dwellBlocked := d.dwell.map (·.blocked), dwellSeconds := secondsLeft (d.dwell.map (·.remaining))
                      permitDischarge := d.permitDischarge, permitCharge := d.permitCharge
                      targetCharge := p.targetCapacity .charge, targetDischarge := p.targetCapacity .discharge
                      committedCharge := p.committedCapacity .charge, committedDischarge := p.committedCapacity .discharge
                      reserveSum := d.reserveSum, shortfallSum := d.shortfallSum, cycles := d.cycles, meterLost := d.meterLost
                      startExport := d.startExport, startImport := d.startImport, number := d.number })

/-- R53: ReadInventory. -/
def Ck4.readInventoryAnswer (p : Ck4) : Answer :=
  let v := p.inventory
  okWith (.inventory { state := v.state, drift := v.drift, m := v.m, pEst := v.pEst, lastPressure := v.lastPressure
                       residual := v.residual, temperature := v.temperature, mMin := v.mMin, mMax := v.mMax, wDis := v.wDis
                       wChg := v.wChg, dischargeMargin := v.dischargeMargin, chargeMargin := v.chargeMargin, mStep := v.mStep
                       pRateDis := v.pRateDis, pRateChg := v.pRateChg, eDis := p.energyDischarge, eChg := p.energyCharge
                       hFree := p.hFree, hRoom := p.hRoom, hHeld := p.hHeld, stored := v.stored })

/-- R80: one vessel. -/
def Ck4.vesselReading (p : Ck4) (v : VesselId) : VesselReading :=
  let r := p.vessel v
  { reported := r.reported, layers := r.layers, valid := r.valid, invalidCount := r.invalidCount, content := r.content
    condition := r.condition, use := r.use, held := r.held, stored := r.stored, usable := r.usable, room := r.room
    eligibleCharge := p.eligibleCharge v, eligibleDischarge := p.eligibleDischarge v, route := r.route }

/-- R80: one machine's binding. -/
def Ck4.bindingReading (p : Ck4) (m : MachineId) : BindingReading :=
  let b := p.binding m
  { bound := b.bound, target := b.target, bypass := b.bypass, cause := b.cause, seconds := secondsLeft b.timer }

/-- R80: ReadVessels. -/
def Ck4.readVesselsAnswer (p : Ck4) : Answer :=
  let a := p.allocator
  okWith (.allocator { vessels := allVessels.map p.vesselReading, hold := a.hold, freeze := a.freeze
                       bypassRequested := a.bypassRequested, bypassPermitted := a.bypassPermitted, tree := a.tree
                       hFree := p.hFree, hRoom := p.hRoom, hHeld := p.hHeld, reserve := a.reserve
                       bindings := allMachines.map p.bindingReading })

/-- R111: one machine. -/
def Ck4.machineReading (p : Ck4) (m : MachineId) : MachineReading :=
  let r := p.mach m
  { state := r.state, adopted := r.adopted, report := r.report, power := r.power, inlet := r.inlet, source := r.source
    demand := r.demand, phase := r.phase, setpoint := r.setpoint, loadPending := r.loadPending
    startSeconds := secondsLeft r.startTimer, lingerSeconds := secondsLeft r.lingerTimer, startFailed := r.startFailed
    controllerTripHanded := r.controllerTripHanded, lockoutPending := r.lockoutPending, stoppedSinceTrip := r.stoppedSinceTrip
    acknowledged := r.acknowledged, correcting := r.correcting, last := r.last, eoh := p.eoh m }

/-- R111: ReadMachines. -/
def Ck4.readMachinesAnswer (p : Ck4) : Answer := okWith (.machines (allMachines.map p.machineReading))

/-- R108: the average load in per mille. -/
def Counters.averageLoad (c : Counters) : Nat := if c.loadedSeconds = 0 then 0 else c.loadMs / c.loadedSeconds

/-- R110: one machine's counters. -/
def Ck4.counterReading (p : Ck4) (m : MachineId) : CounterReading :=
  let c := (p.mach m).counters
  { counters := c, eoh := p.eoh m, averageLoad := c.averageLoad, startPenalty := p.startPenalty, tripPenalty := p.tripPenalty }

/-- R110: ReadCounters. -/
def Ck4.readCountersAnswer (p : Ck4) : Answer :=
  okWith (.counters (allMachines.map p.counterReading) p.sequencer.restored p.sequencer.lastSave)

/-- R152: the records, the oldest marked first-out. -/
def markFirstOut (table : List FaultRecord) : List (Bool × FaultRecord) :=
  match table with
  | [] => []
  | r :: rest => (true, r) :: rest.map fun x => (false, x)

/-- R152: ReadFaults. -/
def Ck4.readFaultsAnswer (p : Ck4) : Answer :=
  let t := p.protection
  okWith (.faults { enables := t.enables, tripInProgress := t.tripInProgress, shutdown := t.shutdown
                    lastTripOrigin := t.lastTripOrigin, overflow := t.overflow, nextSequence := t.nextSequence
                    count := t.table.length, records := markFirstOut t.table })

/-- R172: one input. -/
def InputLine.reading (l : InputLine) : InputReading :=
  { function := l.function, polarity := l.polarity, checkCode := l.checkCode, raw := l.raw, qualified := l.qualified, active := l.active }

/-- R172: one output. -/
def OutputLine.reading (l : OutputLine) : OutputReading :=
  { function := l.function, polarity := l.polarity, asserted := l.asserted, level := l.level }

/-- R172: ReadLines. -/
def Ck4.readLinesAnswer (p : Ck4) : Answer :=
  okWith (.lines { inputs := p.lines.inputs.map InputLine.reading, outputs := p.lines.outputs.map OutputLine.reading
                   inForce := p.good .lines, bypassAllowed := p.coolerAllows })

/-- R183: one entry of the summary. -/
def Ck4.sourceSummary (p : Ck4) (e : SourceEntry) : SourceSummary :=
  { address := e.address, kind := e.kind, unit := e.unit, state := e.state, lastSequence := e.lastSequence, age := p.age e }

/-- R183: one destination of the summary. -/
def Slot.reading (s : Slot) : SlotReading :=
  { status := s.status, order := s.order, sequence := s.sequence, lastGiven := s.lastGiven, confirmMs := s.confirmTimer.getD 0
    repeatMs := s.repeatTimer.getD 0, transmissions := s.transmissions }

/-- The five kinds of source, in code order. -/
def sourceKinds : List SourceKind := [.compressor, .expander, .vessel, .cavern, .gridMeter]

/-- R183: the summary. -/
def Ck4.linkReading (p : Ck4) : LinkReading :=
  let l := p.plantLink
  { inForce := p.good .port, entries := l.sources.map p.sourceSummary, tStale := sourceKinds.map p.tStale
    tLost := sourceKinds.map p.tLost, orderRepeat := p.orderRepeat, orderConfirm := p.orderConfirm
    slots := allDests.map fun d => (p.slot d).reading, queued := l.queue.length, waiting := l.transmitList.length
    framingErrors := l.framingErrors, drops := l.drops, rejects := l.rejects, duplicates := l.duplicates }

/-- R183: ReadSources. -/
def Ck4.readSourcesAnswer (p : Ck4) (selector : Nat) : Answer :=
  if selector ≤ 23 then
    let e := p.source selector
    okWith (.source e.address e.kind e.unit e.state e.held)
  else if selector = 255 then okWith (.link p.linkReading)
  else refuse .argRange

end Sys2Proof.Machine
end

