-- ==== Sys2Proof/Machine/Requests.lean ====
section
/-! DEFINITION. What each request that may change the part does, with its checks in their order and its answer. -/

namespace Sys2Proof.Machine

/-- R187: a request that changes nothing but is refused. -/
def Ck4.refused (p : Ck4) (s : Status) : Answer × Ck4 := (refuse s, p)

/-! ### Constants store and mode (11) -/

/-- R194: a mode that SetMode may name. -/
def targetMode (n : Nat) : Option Mode :=
  match n with
  | 1 => some .standby
  | 2 => some .auto
  | 3 => some .manual
  | _ => none

/-- R194: a mode change that is taken. -/
def Ck4.modeTaken (p : Ck4) (n : Mode) : Answer × Ck4 := (okWith (.mode n), if p.mode = n then p else p.changeMode n)

/-- R194: SetMode. -/
def Ck4.setMode (p : Ck4) (code : Nat) : Answer × Ck4 :=
  match targetMode code with
  | none => p.refused .argRange
  | some n =>
    match p.mode with
    | .auto => p.modeTaken n
    | .manual => p.modeTaken n
    | .standby =>
      if n = .standby then p.modeTaken n
      else if !p.time.valid then p.refused .timeInvalid
      else if p.protection.tripInProgress then p.refused .busy
      else p.modeTaken n
    | _ => p.refused .wrongMode

/-- R200: the length check of LoadConstants; a section code above 6 passes it at any length. -/
def loadLengthGood (sect : Nat) (values : List Int) : Bool :=
  match sectionOf sect with
  | none => true
  | some s => values.length == sectionSize s

/-- R193: LoadConstants. -/
def Ck4.loadConstants (p : Ck4) (sect : Nat) (values : List Int) : Answer × Ck4 :=
  if p.mode ≠ .unconfigured && p.mode ≠ .standby then p.refused .wrongMode
  else
    match sectionOf sect with
    | none => p.refused .argRange
    | some s =>
      if !sectionRanges s values then p.refused .argRange
      else if p.constants.store.isSome || p.sequencer.save.isSome then p.refused .busy
      else (ok, { p with constants := { p.constants with store := some ⟨s, values⟩ } })

/-- R195: Restart; the restart is taken once its reply has been sent (R188). -/
def Ck4.askRestart (p : Ck4) : Answer × Ck4 := (ok, { p with station := { p.station with restartAsked := true } })

/-! ### Time base (07) -/

/-- R157: SetTime. -/
def Ck4.setTime (p : Ck4) (day second ms : Nat) : Answer × Ck4 :=
  if day > 65534 || second > 86399 || ms > 999 then p.refused .argRange
  else
    let kind := p.time.stepClass day second ms
    if kind = .backward && p.mode ≠ .standby then p.refused .timeBackward
    else (okWith (.timeSet kind (if kind = .forward then p.time.crossed day second ms else 0)), p.applyTime day second ms)

/-! ### Schedule (01) -/

/-- R10, R14: a range of a day. -/
def rangeGood (first count : Nat) : Bool := 1 ≤ count && count ≤ 16 && first + count ≤ 96

/-- R12: a change admitted is applied, with the proposal's result stored; one refused changes nothing. -/
def Ck4.admitChange (p : Ck4) (proposed : Schedule) : Answer × Ck4 :=
  let a := p.admission proposed
  if a.1 then (ok, Ck4.storeProjection { p with schedule := proposed } a.2)
  else (⟨.admission, .violation a.2.first a.2.kind⟩, p)

/-- R11: a proposal over `n` intervals from `base` asks for admission where it changes the firm content of some interval. -/
def Ck4.propose (p : Ck4) (proposed : Schedule) (base n : Nat) : Answer × Ck4 :=
  if firmChanges p.schedule proposed base n then p.admitChange proposed else (ok, { p with schedule := proposed })

/-- R10: WriteIntervals. -/
def Ck4.writeIntervals (p : Ck4) (day first count : Nat) (os : List OfferedRecord) : Answer × Ck4 :=
  if !p.time.valid then p.refused .timeInvalid
  else
    match p.schedule.pageBase day with
    | none => p.refused .argRange
    | some base =>
      if !rangeGood first count || !p.offersValid os then p.refused .argRange
      else
        match firstInterval (fun i => !(p.schedule.record i).status.writable) (base + first) count with
        | some i => (⟨.gateClosed, .interval i⟩, p)
        | none => p.propose (p.schedule.write (base + first) os) (base + first) count

/-- The 96 records of the page whose first absolute index is `base`. -/
def Schedule.page (s : Schedule) (base : Nat) : List IntervalRecord := if base = 0 then s.currentPage else s.nextPage

/-- The staging page takes a value. -/
def Ck4.setStaging (p : Ck4) (g : Option Staging) : Ck4 := { p with schedule := { p.schedule with staging := g } }

/-- R13: BeginDayLoad. -/
def Ck4.beginDayLoad (p : Ck4) (day : Nat) : Answer × Ck4 :=
  if !p.time.valid then p.refused .timeInvalid
  else
    match p.schedule.pageBase day with
    | none => p.refused .argRange
    | some base =>
      if p.schedule.staging.isSome then p.refused .stagingState
      else (ok, p.setStaging (some ⟨day, p.schedule.page base, Config.stagingTime⟩))

/-- R14: StageIntervals. -/
def Ck4.stageIntervals (p : Ck4) (first count : Nat) (os : List OfferedRecord) : Answer × Ck4 :=
  match p.schedule.staging with
  | none => p.refused .stagingState
  | some g =>
    if !rangeGood first count || !p.offersValid os then
      (refuse .argRange, p.setStaging (some { g with timer := Config.stagingTime }))
    else (ok, p.setStaging (some { g with records := writePage g.records first os, timer := Config.stagingTime }))

/-- R15 check 1: whether a staged record may stand against a live one. -/
def gateAgrees (live staged : IntervalRecord) : Bool :=
  live.status.writable || (live.power == staged.power && live.up == staged.up && live.down == staged.down)

/-- R15: a writable live record takes the staged one, with committed no; a fixed one keeps what it held. -/
def mergeStaged (live staged : IntervalRecord) : IntervalRecord :=
  if live.status.writable then { staged with committed := false } else live

/-- R15: the live pages with the `n` intervals from index `i` of a day taken from the staging page. -/
def Schedule.commitFrom (s : Schedule) (base : Nat) (staged : List IntervalRecord) (i n : Nat) : Schedule :=
  match n with
  | 0 => s
  | n + 1 =>
    (s.setRecord (base + i) (mergeStaged (s.record (base + i)) (staged.getD i .blank))).commitFrom base staged (i + 1) n

/-- R15: the outcome of the checks closes the staging page, or restarts its timer. -/
def Ck4.settleCommit (p : Ck4) (g : Staging) (r : Answer × Ck4) : Answer × Ck4 :=
  if r.1.status = .ok then (r.1, r.2.setStaging none)
  else (r.1, p.setStaging (some { g with timer := Config.stagingTime }))

/-- R15: CommitDayLoad. -/
def Ck4.commitDayLoad (p : Ck4) : Answer × Ck4 :=
  match p.schedule.staging with
  | none => p.refused .stagingState
  | some g =>
    let base := (p.schedule.pageBase g.day).getD 0
    p.settleCommit g <|
      match firstInterval (fun i => !gateAgrees (p.schedule.record (base + i)) (g.records.getD i .blank)) 0 96 with
      | some i => (⟨.gateClosed, .interval (base + i)⟩, p)
      | none => p.propose (p.schedule.commitFrom base g.records 0 96) base 96

/-- R16: CancelDayLoad. -/
def Ck4.cancelDayLoad (p : Ck4) : Answer × Ck4 :=
  if p.schedule.staging.isSome then (ok, p.setStaging none) else p.refused .stagingState

/-- R16: the discard timer expires. -/
def Ck4.discardStaging (p : Ck4) : Ck4 := (p.setStaging none).postDiscard 1 p.schedule.staging

/-- 12.3: the kind of a window's code. -/
def windowKindOf (n : Nat) : Option WindowKind :=
  match n with
  | 0 => some .block
  | 1 => some .setpoint
  | 2 => some .capDischarge
  | 3 => some .capCharge
  | _ => none

/-- R18, R129: a power lies within the rating sum of its direction (log entry 14). -/
def powerWithin (sum : Dir → Nat) (z : Int) : Bool :=
  powerInRange z &&
    match powerDir z with
    | none => true
    | some d => z.natAbs ≤ sum d

/-- R18: a power lies within the ratings of its direction. -/
def Ck4.powerWithinRatings (p : Ck4) (z : Int) : Bool := powerWithin p.ratingSum z

/-- R18: the value of a window of a kind is in range. -/
def Ck4.windowValueGood (p : Ck4) (k : WindowKind) (value : Int) : Bool :=
  match k with
  | .block => true
  | .setpoint => p.powerWithinRatings value
  | _ => 0 ≤ value && value ≤ 32767

/-- R18: the window that a SetWindow stores; the value of a BLOCK window is stored as 0. -/
def newWindow (k : WindowKind) (first last mask : Nat) (value : Int) : Window :=
  ⟨true, k, first, last, mask, if k = .block then 0 else value⟩

/-- The window of an index is replaced. -/
def Schedule.setWindow (s : Schedule) (i : Nat) (w : Window) : Schedule := { s with windows := s.windows.set i w }

/-- R19: a BLOCK or CAP window is stored and a projection run; a failure over a failure is reported by the schedule. -/
def Ck4.storeWindow (p : Ck4) (proposed : Schedule) : Ck4 :=
  let q := Ck4.runProjection { p with schedule := proposed }
  if !p.inventory.stored.pass && !q.inventory.stored.pass then q.postShortfall q.inventory.stored else q

/-- R18, R19: SetWindow. -/
def Ck4.setWindow (p : Ck4) (index kind mask first last : Nat) (value : Int) : Answer × Ck4 :=
  if !p.time.valid then p.refused .timeInvalid
  else
    match windowKindOf kind with
    | none => p.refused .argRange
    | some k =>
      if index > 15 || last > 191 || first > last || mask = 0 || mask > 15 || !p.windowValueGood k value then p.refused .argRange
      else
        let proposed := p.schedule.setWindow index (newWindow k first last mask value)
        if k = .setpoint then p.admitChange proposed else (ok, p.storeWindow proposed)

/-- R20: ClearWindow. -/
def Ck4.clearWindow (p : Ck4) (index : Nat) : Answer × Ck4 :=
  if index > 15 then p.refused .argRange
  else if (p.schedule.windows.getD index .free).inUse then
    (ok, Ck4.runProjection { p with schedule := p.schedule.setWindow index .free })
  else (ok, p)

/-! ### Dispatch (05) -/

/-- R129: SetManualTarget, checked against the ratings that dispatch uses (R112; log entry 39). -/
def Ck4.setManualTarget (p : Ck4) (power : Int) : Answer × Ck4 :=
  if p.mode ≠ .manual then p.refused .wrongMode
  else if !powerWithin p.dispatchRatingSum power then p.refused .argRange
  else (ok, { p with dispatch := { p.dispatch with manualTarget := power } })

/-- R115: SetRampGear. -/
def Ck4.setRampGear (p : Ck4) (gear : Nat) : Answer × Ck4 :=
  if gear > 3 then p.refused .argRange else (ok, { p with dispatch := { p.dispatch with gear := gear } })

/-! ### Allocator (03) -/

/-- R63: every held flag is set from a hold count. -/
def Ck4.setHeld (p : Ck4) (n : Nat) : Ck4 :=
  allVessels.foldl (fun q v => q.setVessel v { q.vessel v with held := vesselIndex v < n }) p

/-- R63: SetHold. -/
def Ck4.setHold (p : Ck4) (n : Nat) : Answer × Ck4 :=
  if n > 7 then p.refused .argRange
  else if n = p.allocator.hold then (ok, p)
  else
    let q := p.setHeld n
    (ok, Ck4.runProjection { q with allocator := { q.allocator with hold := n } })

/-- R64: the freeze changes; a vessel that becomes eligible as it turns off is taken. -/
def Ck4.changeFreeze (p : Ck4) (on : Bool) : Ck4 :=
  Ck4.takeEligible p (Ck4.runProjection { p with allocator := { p.allocator with freeze := on } })

/-- R200: an on or off value. -/
def onOff (n : Nat) : Option Bool :=
  match n with
  | 0 => some false
  | 1 => some true
  | _ => none

/-- R64: SetFreeze. -/
def Ck4.setFreeze (p : Ck4) (value : Nat) : Answer × Ck4 :=
  match onOff value with
  | none => p.refused .argRange
  | some on => (ok, if on = p.allocator.freeze then p else p.changeFreeze on)

/-- R65: SetBypass. -/
def Ck4.setBypass (p : Ck4) (value : Nat) : Answer × Ck4 :=
  match onOff value with
  | none => p.refused .argRange
  | some on => (ok, Ck4.recomputeBypass { p with allocator := { p.allocator with bypassRequested := on } })

/-- R78: a vessel is withdrawn. -/
def Ck4.isolate (p : Ck4) (v : VesselId) : Ck4 := (p.place (.vessel v) (.route .none)).setUse v .isolated

/-- R78: a vessel bound to machine `m` is withdrawn where the machine is in TRIPPED. -/
def Ck4.isolateBound (p : Ck4) (v : VesselId) (m : MachineId) : Answer × Ck4 :=
  if (p.mach m).state == .tripped then (ok, (p.setBinding m { p.binding m with bound := none }).isolate v)
  else p.refused .busy

/-- R78: IsolateVessel. -/
def Ck4.isolateVessel (p : Ck4) (n : Nat) : Answer × Ck4 :=
  match vesselOf n with
  | none => p.refused .argRange
  | some v =>
    match (p.vessel v).use with
    | .free => (ok, p.isolate v)
    | .isolated => (ok, p)
    | .charging m => p.isolateBound v m
    | .discharging m => p.isolateBound v m
    | _ => p.refused .busy

/-- R79 steps 1 to 3. A vessel whose source is LOST turns DEGRADED without a fault; the invalid count of the last accepted
record is tested otherwise, as R58 states. The model's choice (log entry 44): a vessel FREE and NORMAL whose source has been LOST
since power-on turns DEGRADED by step 2. -/
def Ck4.retest (p : Ck4) (v : VesselId) : Ck4 :=
  let q := p.setVessel v { p.vessel v with use := .free, condition := .normal }
  let r :=
    if (q.vessel v).source == .lost then q.setVessel v { q.vessel v with condition := .degraded }
    else if (q.vessel v).reported then q.testCondition v
    else q
  r.refreshVessel v

/-- R79: RestoreVessel. -/
def Ck4.restoreVessel (p : Ck4) (n : Nat) : Answer × Ck4 :=
  match vesselOf n with
  | none => p.refused .argRange
  | some v =>
    if (p.vessel v).use.engaged then p.refused .busy
    else
      let q := p.retest v
      (okWith (.vesselCondition (q.vessel v).condition), Ck4.takeEligible p q)

/-! ### Sequencer (04) -/

/-- R100: what bars the release of a locked-out machine. -/
def Ck4.releaseBarred (p : Ck4) (m : MachineId) : Bool :=
  p.activeOrUnknown (.trip m) || p.activeOrUnknown .estop || (p.mach m).report != some .stopped

/-- R100: a locked-out machine is released. -/
def Ck4.release (p : Ck4) (m : MachineId) : Ck4 :=
  let q := p.transitionOrder m .stopped .lockoutReleased .stop
  q.setMach m { q.mach m with lockoutPending := false, stoppedSinceTrip := false, acknowledged := false }

/-- R100: ReleaseLockout. -/
def Ck4.releaseLockout (p : Ck4) (n : Nat) : Answer × Ck4 :=
  match machineOf n with
  | none => p.refused .argRange
  | some m =>
    if (p.mach m).state ≠ .lockedOut then (okWith (.machineState (p.mach m).state), p)
    else if p.releaseBarred m then p.refused .lockedOut
    else (okWith (.machineState .stopped), p.release m)

/-! ### Protection (06) -/

/-- R150, R99: the acknowledgement is handed to the sequencer. The order among the machines is the model's choice (log entry
40): index order, each marked and moved before the next. -/
def Ck4.acknowledgeAll (p : Ck4) : Ck4 := allMachines.foldl Ck4.acknowledge p

/-- R150: the reply of an accepted AckTrip. -/
def Ck4.ackReply (p : Ck4) : Answer × Ck4 :=
  (okWith (.acknowledged p.protection.tripInProgress (p.countIn .tripped) (p.countIn .lockedOut)), p)

/-- R145, R150, R151: trip in progress ends, with TRIP_ENDED. -/
def Ck4.endTrip (p : Ck4) (subject : Nat) : Ck4 :=
  Ck4.post { p with protection := { p.protection with tripInProgress := false } }
    .tripEnded subject (p.protection.lastTripOrigin.getD 0 : Nat)

/-- R150: every machine is STOPPED, TRIPPED or LOCKED_OUT. -/
def Ck4.allAtRest (p : Ck4) : Bool :=
  allMachines.all fun m => (p.mach m).state == .stopped || (p.mach m).state == .tripped || (p.mach m).state == .lockedOut

/-- R150: AckTrip. -/
def Ck4.ackTrip (p : Ck4) : Answer × Ck4 :=
  if p.protection.tripInProgress then
    if p.allAtRest then (p.endTrip 0).acknowledgeAll.ackReply else p.refused .busy
  else p.acknowledgeAll.ackReply

/-- R151: every machine is STOPPED or LOCKED_OUT. -/
def Ck4.allReleased (p : Ck4) : Bool :=
  allMachines.all fun m => (p.mach m).state == .stopped || (p.mach m).state == .lockedOut

/-- R151: SHUTDOWN is left. -/
def Ck4.leaveShutdown (p : Ck4) : Ck4 :=
  let q := if p.protection.tripInProgress then p.endTrip 1 else p
  Ck4.changeMode { q with protection := { q.protection with shutdown := false } }
    (if p.allGood then .standby else .unconfigured)

/-- R151: ClearShutdown. -/
def Ck4.clearShutdown (p : Ck4) : Answer × Ck4 :=
  if !p.protection.shutdown then p.refused .wrongMode
  else if p.activeOrUnknown .estop then (⟨.busy, .condition 1⟩, p)
  else if !p.allReleased then (⟨.busy, .condition 2⟩, p)
  else (okWith (.mode (if p.allGood then .standby else .unconfigured)), p.leaveShutdown)

/-- R153: the table after a removal; an empty table clears the overflow flag. -/
def Protection.withTable (t : Protection) (table : List FaultRecord) : Protection :=
  { t with table := table, overflow := t.overflow && !table.isEmpty }

/-- R153: the oldest record with a number is removed. -/
def removeRecord (n : Nat) (table : List FaultRecord) : List FaultRecord :=
  match table with
  | [] => []
  | r :: rest => if r.sequence = n then rest else r :: removeRecord n rest

/-- R153: the table is left with some records. -/
def Ck4.keepFaults (p : Ck4) (table : List FaultRecord) : Answer × Ck4 :=
  (okWith (.faultsLeft table.length), { p with protection := p.protection.withTable table })

/-- R153: ClearFaults. -/
def Ck4.clearFaults (p : Ck4) (selector n : Nat) : Answer × Ck4 :=
  match selector with
  | 0 =>
    if p.protection.table.any fun r => r.sequence = n then p.keepFaults (removeRecord n p.protection.table)
    else p.refused .argRange
  | 1 => p.keepFaults []
  | _ => p.refused .argRange

/-- R138: the groups whose enable may be set. -/
def settableGroup (n : Nat) : Option Group :=
  match n with
  | 2 => some .vessel
  | 4 => some .port
  | 5 => some .lines
  | _ => none

/-- R138, R200: SetGroupEnable. Neither rule places the ARG_RANGE of a value above 1: it is answered with that of the group, before
WRONG_MODE (the model's choice, log entry 48). -/
def Ck4.setGroupEnable (p : Ck4) (group value : Nat) : Answer × Ck4 :=
  match settableGroup group, onOff value with
  | some g, some on =>
    if p.mode ≠ .standby then p.refused .wrongMode
    else (ok, { p with protection := { p.protection with enables := p.protection.enables.set g on } })
  | _, _ => p.refused .argRange

/-! ### Station link (10) -/

/-- R190: FetchNotices. -/
def Ck4.fetchNotices (p : Ck4) (count : Nat) : Answer × Ck4 :=
  if count = 0 || count > 8 then p.refused .argRange
  else
    let taken := p.station.notices.take count
    let left := p.station.notices.drop count
    (okWith (.notices taken.length left.length taken),
      { p with station := { p.station with
          notices := left, attentionPending := p.station.attentionPending && !left.isEmpty } })

/-- R191: SetAttentionMask. -/
def Ck4.setAttentionMask (p : Ck4) (mask : Nat) : Answer × Ck4 :=
  match onOff mask with
  | none => p.refused .argRange
  | some unmasked =>
    (okWith (.attention (!unmasked) p.station.attentionPending p.station.notices.length),
      { p with station := { p.station with masked := !unmasked } })

/-! ### Taking a request (R187) -/

/-- R187 checks 2 and 3, before a request is handed to its owner: its payload's length, and UNCONFIGURED. -/
def Ck4.guard (p : Ck4) (lengthGood inUnconfigured : Bool) (op : Answer × Ck4) : Answer × Ck4 :=
  if !lengthGood then p.refused .badLength
  else if p.mode == .unconfigured && !inUnconfigured then p.refused .notConfigured
  else op

/-- R187: the answer of a request is recorded (log entry 1). -/
def Ck4.record (p : Ck4) (a : Answer) : Ck4 := { p with station := { p.station with answer := some a } }

end Sys2Proof.Machine
end

