-- ==== Sys2Proof/Machine/Station.lean ====
section
/-! DEFINITION. The station link: payloads (R199, R200) and the request check (R187), the request queue (R186), the
transmitter's ends (R188), and the receiver (R185). -/

namespace Sys2Proof.Machine

/-! ### Payloads (R199, R200) -/

/-- 12.3: an offered interval record at an offset of a payload. -/
def offeredAt (payload : List Byte) (o : Nat) : OfferedRecord :=
  { status := field payload o 1, power := signedField payload (o + 2) 2, up := field payload (o + 4) 2
    down := field payload (o + 6) 2
    reference := if (field payload (o + 1) 1).testBit 1 then some (field payload (o + 8) 4) else none }

/-- R199: `n` offered interval records from an offset. -/
def offeredRecords (payload : List Byte) (o n : Nat) : List OfferedRecord :=
  (List.range n).map fun i => offeredAt payload (o + 12 * i)

/-- R200: the values of LoadConstants. -/
def loadValues (payload : List Byte) : List Int :=
  (List.range ((payload.length - 1) / 4)).map fun i => signedField payload (1 + 4 * i) 4

/-- R200: the length of a LoadConstants payload; a section code above 6 passes at any length of 1 or more. -/
def loadPayloadGood (payload : List Byte) : Bool :=
  1 ≤ payload.length &&
    match sectionOf (field payload 0 1) with
    | none => true
    | some s => payload.length == 1 + 4 * sectionSize s

/-- R187: the head request is checked for kind, length and mode, and handed to its owner. -/
def Ck4.serveFrame (p : Ck4) (f : RequestFrame) : Answer × Ck4 :=
  let x := f.payload
  let n := x.length
  let b (i : Nat) : Nat := field x i 1
  let w (i : Nat) : Nat := field x i 2
  match f.kind.toNat with
  | 0x01 => p.guard (n == 0) true (identifyAnswer, p)
  | 0x02 => p.guard (n == 0) true (p.readStatusAnswer, p)
  | 0x03 => p.guard (n == 1) false (p.setMode (b 0))
  | 0x04 => p.guard (loadPayloadGood x) true (p.loadConstants (b 0) (loadValues x))
  | 0x05 => p.guard (n == 1) true (p.readConstantsAnswer (b 0), p)
  | 0x06 => p.guard (n == 0) true p.askRestart
  | 0x08 => p.guard (n == 8) false (p.setTime (w 0) (field x 2 4) (w 6))
  | 0x09 => p.guard (n == 0) false (p.readTimeAnswer, p)
  | 0x10 => p.guard (4 ≤ n && n == 4 + 12 * b 3) false (p.writeIntervals (w 0) (b 2) (b 3) (offeredRecords x 4 (b 3)))
  | 0x11 => p.guard (n == 3) false (p.readIntervalsAnswer (w 0) (b 2), p)
  | 0x12 => p.guard (n == 2) false (p.beginDayLoad (w 0))
  | 0x13 => p.guard (2 ≤ n && n == 2 + 12 * b 1) false (p.stageIntervals (b 0) (b 1) (offeredRecords x 2 (b 1)))
  | 0x14 => p.guard (n == 0) false p.commitDayLoad
  | 0x15 => p.guard (n == 0) false p.cancelDayLoad
  | 0x16 => p.guard (n == 8) false (p.setWindow (b 0) (b 2) (b 3) (b 4) (b 5) (signedField x 6 2))
  | 0x17 => p.guard (n == 1) false (p.clearWindow (b 0))
  | 0x18 => p.guard (n == 0) false (p.readWindowsAnswer, p)
  | 0x1A => p.guard (n == 2) false (p.setManualTarget (signedField x 0 2))
  | 0x1B => p.guard (n == 1) false (p.setRampGear (b 0))
  | 0x1C => p.guard (n == 0) false (p.readSettlementsAnswer, p)
  | 0x1D => p.guard (n == 0) false (p.readDispatchAnswer, p)
  | 0x1E => p.guard (n == 0) false (p.readInventoryAnswer, p)
  | 0x20 => p.guard (n == 1) false (p.setHold (b 0))
  | 0x21 => p.guard (n == 1) false (p.setFreeze (b 0))
  | 0x22 => p.guard (n == 1) false (p.setBypass (b 0))
  | 0x23 => p.guard (n == 1) false (p.isolateVessel (b 0))
  | 0x24 => p.guard (n == 1) false (p.restoreVessel (b 0))
  | 0x25 => p.guard (n == 0) false (p.readVesselsAnswer, p)
  | 0x28 => p.guard (n == 0) false (p.readMachinesAnswer, p)
  | 0x29 => p.guard (n == 0) false (p.readCountersAnswer, p)
  | 0x2A => p.guard (n == 1) false (p.releaseLockout (b 0))
  | 0x30 => p.guard (n == 0) false p.ackTrip
  | 0x31 => p.guard (n == 0) false p.clearShutdown
  | 0x32 => p.guard (n == 0) false (p.readFaultsAnswer, p)
  | 0x33 => p.guard (n == 3) false (p.clearFaults (b 0) (w 1))
  | 0x34 => p.guard (n == 2) false (p.setGroupEnable (b 0) (b 1))
  | 0x38 => p.guard (n == 1) false (p.fetchNotices (b 0))
  | 0x39 => p.guard (n == 1) false (p.setAttentionMask (b 0))
  | 0x3A => p.guard (n == 0) true (p.readLinesAnswer, p)
  | 0x3B => p.guard (n == 1) true (p.readSourcesAnswer (b 0), p)
  | _ => p.refused .unknownKind

/-! ### The request queue (R186, R188) -/

/-- R187: the reply to a request frame. -/
def replyTo (f : RequestFrame) (a : Answer) : Reply := ⟨f.kind + 0x80#8, f.tag, a⟩

/-- R186, R187: the new head of the queue is taken, unless a restart has been asked for (R188; log entry 31). -/
def Ck4.takeHead (p : Ck4) : Ck4 :=
  match p.station.headReply, p.station.queue with
  | none, f :: _ =>
    if p.station.restartAsked then p
    else
      let r := p.serveFrame f
      let q := r.2.record r.1
      { q with station := { q.station with headReply := some (replyTo f r.1) } }
  | _, _ => p

/-- R186: a complete frame is classed by its kind. -/
def Ck4.classFrame (p : Ck4) (f : RequestFrame) : Ck4 :=
  if f.kind.toNat = 0 || f.kind.toNat ≥ 0x40 then p
  else if p.station.queue.length < Config.requestQueueSize then
    Ck4.takeHead { p with station := { p.station with queue := p.station.queue ++ [f] } }
  else if p.station.busyReply.isNone then
    { p with station := { p.station with busyReply := some (replyTo f (refuse .busy)) } }
  else p

/-- R188: the last byte of the head request's reply has left: the request leaves the queue and the next is taken, or the
restart that was asked for is handed on (R195). -/
def Ck4.replyLeft (p : Ck4) : Ck4 :=
  match p.station.tx with
  | .reply =>
    let q : Ck4 := { p with station := { p.station with
      queue := p.station.queue.drop 1, headReply := none, tx := .idle, sending := none } }
    if p.station.restartAsked then q.warmRestart else q.takeHead
  | _ => p

/-- R188: the last byte of the BUSY reply has left. -/
def Ck4.busyLeft (p : Ck4) : Ck4 :=
  match p.station.tx with
  | .busy => { p with station := { p.station with busyReply := none, tx := .idle, sending := none } }
  | _ => p

/-! ### The receiver (R185) -/

/-- R185: the frame in progress is given up and the receiver hunts. -/
def Ck4.giveUpFrame (p : Ck4) : Ck4 :=
  { p with station := { p.station with phase := .hunt, inProgress := none, lastByte := none } }

/-- R185: the receiver takes a phase at the present moment. -/
def Ck4.setPhase (p : Ck4) (phase : ReceiverPhase) (bytes : Option (List Byte)) : Ck4 :=
  { p with station := { p.station with phase := phase, inProgress := bytes, lastByte := some p.time.elapsed } }

/-- R185, R186: a frame whose bytes, from its length to its CRC, are all held. -/
def Ck4.frameHeld (p : Ck4) (bytes : List Byte) : Ck4 :=
  let q := p.giveUpFrame
  if frameGood bytes then
    q.classFrame ⟨bytes.getD 2 0, bytes.getD 3 0, (bytes.drop 4).take (field bytes 0 2)⟩
  else q

/-- R185: the gap since the previous byte of the frame exceeds 10 ms. -/
def Ck4.gapExceeded (p : Ck4) : Bool :=
  gapOver p.station.phase p.station.lastByte p.time.elapsed

/-- R185: the receiver takes a byte by its phase. -/
def Ck4.receiveByte (p : Ck4) (b : Byte) : Ck4 :=
  match framing p.station.phase p.station.inProgress b with
  | .ignored => p
  | .unsynced => p.giveUpFrame
  | .takes phase bytes => p.setPhase phase bytes
  | .tooLong => p.giveUpFrame
  | .held bytes => p.frameHeld bytes

/-- R185: a byte arrives; a frame in progress whose gap has been exceeded is given up first (log entry 24). -/
def Ck4.stationByte (p : Ck4) (b : Byte) : Ck4 := (if p.gapExceeded then p.giveUpFrame else p).receiveByte b

/-- R186: a complete station frame with a good CRC; one whose payload is above 480 bytes has been given up (R185). -/
def Ck4.stationFrame (p : Ck4) (f : RequestFrame) : Ck4 :=
  if f.payload.length ≤ Config.maxPayload then p.giveUpFrame.classFrame f else p.giveUpFrame

end Sys2Proof.Machine
end

