-- ==== Sys2Proof/Machine/Timers.lean ====
section
/-! DEFINITION. The events of the timers: each acts where its timer runs (log entries 3 and 29). -/

namespace Sys2Proof.Machine

/-- The ms to the next multiple of 1000 of the elapsed count (R107, R113). -/
def Ck4.nextSecond (p : Ck4) : Nat := 1000 - p.time.elapsed % 1000

/-- R113: the cycle timer fires; the cycle uses the constants as they are stored (R112). -/
def Ck4.cycleFires (p : Ck4) : Ck4 :=
  Ck4.cycle { p with dispatch := { p.dispatch with cycleTimer := p.nextSecond, held := none } }

/-- R107: one machine's counters at a firing of the counter timer. -/
def MachineRecord.count (r : MachineRecord) (rating : Nat) : MachineRecord :=
  let c := r.counters
  let run := r.state == .idle || r.state == .loading || r.state == .loaded || r.state == .unloading
  let loaded := r.state == .loaded
  { r with counters := { c with
      runSeconds := if run then saturate 4294967295 (c.runSeconds + 1) else c.runSeconds
      loadedSeconds := if loaded then saturate 4294967295 (c.loadedSeconds + 1) else c.loadedSeconds
      loadMs := if loaded then saturate 281474976710655 (c.loadMs + r.setpoint * 1000 / rating) else c.loadMs } }

/-- R107: the counter timer fires. -/
def Ck4.counterFires (p : Ck4) : Ck4 :=
  allMachines.foldl (fun q m => q.setMach m ((q.mach m).count (p.rating m)))
    { p with sequencer := { p.sequencer with counterTimer := p.nextSecond } }

/-- R117: the dwell timer expires. -/
def Ck4.dwellEnds (p : Ck4) : Ck4 := { p with dispatch := { p.dispatch with dwell := none } }

/-- R86: the start timer of a machine expires. -/
def Ck4.startExpires (p : Ck4) (m : MachineId) : Ck4 := if (p.mach m).startTimer.isSome then p.startTimeout m else p

/-- R93: the linger timer of a machine expires. -/
def Ck4.lingerExpires (p : Ck4) (m : MachineId) : Ck4 :=
  if (p.mach m).lingerTimer.isSome then p.transitionOrder m .stopping .linger .stop else p

/-- R74: the switchover timer of a machine expires. -/
def Ck4.switchExpires (p : Ck4) (m : MachineId) : Ck4 := if (p.binding m).timer.isSome then p.giveUpTarget m true else p

end Sys2Proof.Machine
end

