-- ==== Sys2Proof/Machine/Clock.lean ====
section
/-! DEFINITION. What the part does on an empty queue (log entry 2): the first event that is due, else one millisecond of the
elapsed count, on which every timer counts (R155). -/

namespace Sys2Proof.Machine

/-! ### One millisecond -/

/-- R155: one millisecond: the elapsed count, every timer, and plant time, with the boundary it may reach (R156). -/
def Ck4.tick (p : Ck4) : Ck4 :=
  let t := p.time.advance
  let q := { p.tickTimers 1 with time := { t with elapsed := t.elapsed + 1 } }
  if t.instant != p.time.instant && t.atBoundary then q.boundaryNow else q

/-! ### What is due -/

/-- R177: entry `i` has reached t_stale. -/
def Ck4.staleDue (p : Ck4) (i : Nat) : Bool :=
  let e := p.source i
  e.kind != .unused && e.state == .fresh && p.tStale e.kind != p.tLost e.kind &&
    match p.age e with
    | some a => a ≥ p.tStale e.kind
    | none => false

/-- R177: entry `i` has reached t_lost. -/
def Ck4.lostDue (p : Ck4) (i : Nat) : Bool :=
  let e := p.source i
  e.kind != .unused && (e.state == .stale || (e.state == .fresh && p.tStale e.kind == p.tLost e.kind)) &&
    match p.age e with
    | some a => a ≥ p.tLost e.kind
    | none => false

/-- The source indexes. -/
def sourceIndexes : List Nat := List.range 24

/-- The input line indexes. -/
def inputIndexes : List Nat := List.range 16

/-- The first event that is due, if any, with its effect (log entry 2). The stop at the end of range (R155) is due while the clock
stands at its last instant, also where a SetTime has put it there (log entry 49). -/
def Ck4.due (p : Ck4) : Option Ck4 :=
  if p.station.restartAsked && p.station.headReply.isNone && p.station.tx == .idle then some p.warmRestart
  else if !p.plantLink.queue.isEmpty then some p.takeOldest
  else if (p.schedule.staging.map (·.timer)) = some 0 then some p.discardStaging
  else if let some i := sourceIndexes.find? p.staleDue then some (p.sourceToStale i)
  else if let some i := sourceIndexes.find? p.lostDue then some (p.sourceToLost i)
  else if let some d := allDests.find? fun d => (p.slot d).confirmTimer = some 0 then some (p.confirmTimeout d)
  else if let some d := allDests.find? fun d => (p.slot d).repeatTimer = some 0 then some (p.repeatDue d)
  else if let some m := allMachines.find? fun m => (p.binding m).timer = some 0 then some (p.switchExpires m)
  else if let some m := allMachines.find? fun m => (p.mach m).startTimer = some 0 then some (p.startExpires m)
  else if let some m := allMachines.find? fun m => (p.mach m).lingerTimer = some 0 then some (p.lingerExpires m)
  else if (p.dispatch.dwell.map (·.remaining)) = some 0 then some p.dwellEnds
  else if p.sequencer.counterTimer = 0 then some p.counterFires
  else if p.dispatch.cycleTimer = 0 then some p.cycleFires
  else if p.gapExceeded then some p.giveUpFrame
  else if p.plantGapExceeded then some p.plantGap
  else if let some i := inputIndexes.find? p.sampleDue then some (p.takeSample i)
  else if p.time.runs && p.time.atLast then some p.reachEnd
  else none

/-- What the part does when no command waits. -/
def Ck4.idle (p : Ck4) : Ck4 :=
  match p.due with
  | some q => q.finish
  | none => p.tick.finish

end Sys2Proof.Machine
end

