-- ==== Sys2Proof/Machine/Meaning.lean ====
section
/-! DEFINITION. The three shapes of a meaning: an event, a request that may change the part, and a request that reads. Each
leaves the queue of waiting commands alone. -/

namespace Sys2Proof.Machine

/-- The part is replaced; the queue of commands is not. -/
def State.withPart (s : State) (p : Ck4) : State := { s with part := p }

/-- An event: its effect, and the end of the step (log entry 11). -/
def State.event (s : State) (f : Ck4 → Ck4) : Host.Outcome State Fault Refusal := .next (s.withPart (f s.part).finish)

/-- A request that may change the part: its owner's answer is recorded, and the step ends (R187; log entries 1, 11). -/
def State.request (s : State) (f : Ck4 → Answer × Ck4) : Host.Outcome State Fault Refusal :=
  .next (s.withPart ((f s.part).2.record (f s.part).1).finish)

/-- A request that reads: it changes nothing but the record of its answer (log entry 1). -/
def State.reading (s : State) (f : Ck4 → Answer) : Host.Outcome State Fault Refusal :=
  .next (s.withPart (s.part.record (f s.part)))

end Sys2Proof.Machine
end

