-- ==== Sys2Proof/Machine/Constants.lean ====
section
/-! DEFINITION. The commands of the constants store and of the resets (11). One meaning for each; a request given as a command is the request as its owner takes it
(R187; log entry 1). -/

namespace Sys2Proof.Machine

/-- R196: Identify. -/
def execIdentify (s : State) : Host.Outcome State Fault Refusal :=
  s.reading fun p => (p.guard true true (identifyAnswer, p)).1

/-- R196: ReadStatus. -/
def execReadStatus (s : State) : Host.Outcome State Fault Refusal :=
  s.reading fun p => (p.guard true true (p.readStatusAnswer, p)).1

/-- R194: SetMode. -/
def execSetMode (mode : Nat) (s : State) : Host.Outcome State Fault Refusal :=
  s.request fun p => p.guard true false (p.setMode mode)

/-- R193: LoadConstants. -/
def execLoadConstants (sect : Nat) (values : List Int) (s : State) : Host.Outcome State Fault Refusal :=
  s.request fun p => p.guard (loadLengthGood sect values) true (p.loadConstants sect values)

/-- R193: ReadConstants. -/
def execReadConstants (sect : Nat) (s : State) : Host.Outcome State Fault Refusal :=
  s.reading fun p => (p.guard true true (p.readConstantsAnswer sect, p)).1

/-- R195: Restart. The warm restart follows once its reply has been sent (R188; log entry 31). -/
def execRestart (s : State) : Host.Outcome State Fault Refusal :=
  s.request fun p => p.guard true true p.askRestart

/-- R109: a save of the counters completes. -/
def execCounterSaveComplete (s : State) : Host.Outcome State Fault Refusal :=
  s.event fun p => p.completeSave

/-- R193: a section store completes. -/
def execConstantsStoreComplete (s : State) : Host.Outcome State Fault Refusal :=
  s.event fun p => p.completeStore

/-- R195: the warm restart. -/
def execWarmRestart (s : State) : Host.Outcome State Fault Refusal :=
  s.event fun p => p.warmRestart

/-- R192: the power-on reset. -/
def execPowerOnReset (s : State) : Host.Outcome State Fault Refusal :=
  s.event fun p => p.powerOnReset

end Sys2Proof.Machine
end

