-- ==== Sys2Proof/Machine/Dispatching.lean ====
section
/-! DEFINITION. The commands of dispatch and of the inventory (05, 02). One meaning for each; a request given as a command is the request as its owner takes it
(R187; log entry 1). -/

namespace Sys2Proof.Machine

/-- R129: SetManualTarget. -/
def execSetManualTarget (power : Int) (s : State) : Host.Outcome State Fault Refusal :=
  s.request fun p => p.guard true false (p.setManualTarget power)

/-- R115: SetRampGear. -/
def execSetRampGear (gear : Nat) (s : State) : Host.Outcome State Fault Refusal :=
  s.request fun p => p.guard true false (p.setRampGear gear)

/-- R133: ReadSettlements. -/
def execReadSettlements (s : State) : Host.Outcome State Fault Refusal :=
  s.reading fun p => (p.guard true false (p.readSettlementsAnswer, p)).1

/-- R134: ReadDispatch. -/
def execReadDispatch (s : State) : Host.Outcome State Fault Refusal :=
  s.reading fun p => (p.guard true false (p.readDispatchAnswer, p)).1

/-- R53: ReadInventory. -/
def execReadInventory (s : State) : Host.Outcome State Fault Refusal :=
  s.reading fun p => (p.guard true false (p.readInventoryAnswer, p)).1

/-- R113: the cycle timer fires. -/
def execDispatchCycle (s : State) : Host.Outcome State Fault Refusal :=
  s.event fun p => p.cycleFires

/-- R117: the dwell timer expires; nothing where it is stopped. -/
def execDwellExpired (s : State) : Host.Outcome State Fault Refusal :=
  s.event fun p => p.dwellEnds

end Sys2Proof.Machine
end

