-- ==== Sys2Proof/Machine/HeatStore.lean ====
section
/-! DEFINITION. The commands of the allocator (03). One meaning for each; a request given as a command is the request as its owner takes it
(R187; log entry 1). -/

namespace Sys2Proof.Machine

/-- R63: SetHold. -/
def execSetHold (count : Nat) (s : State) : Host.Outcome State Fault Refusal :=
  s.request fun p => p.guard true false (p.setHold count)

/-- R64: SetFreeze. -/
def execSetFreeze (value : Nat) (s : State) : Host.Outcome State Fault Refusal :=
  s.request fun p => p.guard true false (p.setFreeze value)

/-- R65: SetBypass. -/
def execSetBypass (value : Nat) (s : State) : Host.Outcome State Fault Refusal :=
  s.request fun p => p.guard true false (p.setBypass value)

/-- R78: IsolateVessel. -/
def execIsolateVessel (vessel : Nat) (s : State) : Host.Outcome State Fault Refusal :=
  s.request fun p => p.guard true false (p.isolateVessel vessel)

/-- R79: RestoreVessel. -/
def execRestoreVessel (vessel : Nat) (s : State) : Host.Outcome State Fault Refusal :=
  s.request fun p => p.guard true false (p.restoreVessel vessel)

/-- R80: ReadVessels. -/
def execReadVessels (s : State) : Host.Outcome State Fault Refusal :=
  s.reading fun p => (p.guard true false (p.readVesselsAnswer, p)).1

/-- R74: the switchover timer of a machine expires. -/
def execSwitchTimeout (machine : MachineId) (s : State) : Host.Outcome State Fault Refusal :=
  s.event fun p => p.switchExpires machine

end Sys2Proof.Machine
end

