-- ==== Sys2Proof/Machine/LineCommands.lean ====
section
/-! DEFINITION. The commands of the line unit (08). One meaning for each; a request given as a command is the request as its owner takes it
(R187; log entry 1). -/

namespace Sys2Proof.Machine

/-- R172: ReadLines. -/
def execReadLines (s : State) : Host.Outcome State Fault Refusal :=
  s.reading fun p => (p.guard true true (p.readLinesAnswer, p)).1

/-- R163, R164: a line's qualified level changes (log entry 23). -/
def execInputQualifiedChange (line : Fin 16) (level : Level) (s : State) : Host.Outcome State Fault Refusal :=
  s.event fun p => p.qualifiedChange line.val level

/-- R163: an input line stands at a level, and is sampled where its check time is due. -/
def execInputSample (line : Fin 16) (level : Level) (s : State) : Host.Outcome State Fault Refusal :=
  s.event fun p => p.inputLevel line.val level

end Sys2Proof.Machine
end

