-- ==== Sys2Proof/Machine/Machines.lean ====
section
/-! DEFINITION. The commands of the sequencer (04). One meaning for each; a request given as a command is the request as its owner takes it
(R187; log entry 1). -/

namespace Sys2Proof.Machine

/-- R111: ReadMachines. -/
def execReadMachines (s : State) : Host.Outcome State Fault Refusal :=
  s.reading fun p => (p.guard true false (p.readMachinesAnswer, p)).1

/-- R110: ReadCounters. -/
def execReadCounters (s : State) : Host.Outcome State Fault Refusal :=
  s.reading fun p => (p.guard true false (p.readCountersAnswer, p)).1

/-- R100: ReleaseLockout. -/
def execReleaseLockout (machine : Nat) (s : State) : Host.Outcome State Fault Refusal :=
  s.request fun p => p.guard true false (p.releaseLockout machine)

/-- R86: the start timer of a machine expires. -/
def execStartTimerExpired (machine : MachineId) (s : State) : Host.Outcome State Fault Refusal :=
  s.event fun p => p.startExpires machine

/-- R93: the linger timer of a machine expires. -/
def execLingerExpired (machine : MachineId) (s : State) : Host.Outcome State Fault Refusal :=
  s.event fun p => p.lingerExpires machine

/-- R107: the counter timer fires. -/
def execCounterTick (s : State) : Host.Outcome State Fault Refusal :=
  s.event fun p => p.counterFires

end Sys2Proof.Machine
end

