-- ==== Sys2Proof/Machine/PlantCommands.lean ====
section
/-! DEFINITION. The commands of the plant link (09). One meaning for each; a request given as a command is the request as its owner takes it
(R187; log entry 1). -/

namespace Sys2Proof.Machine

/-- R183: ReadSources. -/
def execReadSources (selector : Nat) (s : State) : Host.Outcome State Fault Refusal :=
  s.reading fun p => (p.guard true true (p.readSourcesAnswer selector, p)).1

/-- R175: the bytes of a plant frame arrive, from the first sync byte on (log entry 10). -/
def execPlantFrameReceived (frame : List Byte) (s : State) : Host.Outcome State Fault Refusal :=
  s.event fun p => p.plantFrame frame

/-- R175: the gap abandons the frame in progress. -/
def execPlantFrameGapTimeout (s : State) : Host.Outcome State Fault Refusal :=
  s.event fun p => p.plantGap

/-- R175: a break discards the frame in progress alone. The model's choice (log entry 10): the framing-error
counter does not count it. -/
def execPlantLinkBreak (s : State) : Host.Outcome State Fault Refusal :=
  s.event fun p => p.huntPlant

/-- R176: the oldest frame of the receive queue is taken. -/
def execRecordTaken (s : State) : Host.Outcome State Fault Refusal :=
  s.event fun p => p.takeOldest

/-- R177: a source's age reaches t_stale. -/
def execSourceStale (source : Fin 24) (s : State) : Host.Outcome State Fault Refusal :=
  s.event fun p => p.sourceToStale source.val

/-- R177, R178: a source's age reaches t_lost. -/
def execSourceLost (source : Fin 24) (s : State) : Host.Outcome State Fault Refusal :=
  s.event fun p => p.sourceToLost source.val

/-- R180: the last byte of an order frame has left. -/
def execOrderFrameSent (s : State) : Host.Outcome State Fault Refusal :=
  s.event fun p => p.orderSent

/-- R180: the repeat timer of a slot expires. -/
def execOrderRepeatDue (dest : Dest) (s : State) : Host.Outcome State Fault Refusal :=
  s.event fun p => p.repeatDue dest

/-- R182: the confirm timer of a slot expires. -/
def execOrderUnconfirmed (dest : Dest) (s : State) : Host.Outcome State Fault Refusal :=
  s.event fun p => p.confirmTimeout dest

end Sys2Proof.Machine
end

