-- ==== Sys2Proof/Machine/StationCommands.lean ====
section
/-! DEFINITION. The commands of the station link (10). One meaning for each; a request given as a command is the request as its owner takes it
(R187; log entry 1). -/

namespace Sys2Proof.Machine

/-- R190: FetchNotices. -/
def execFetchNotices (count : Nat) (s : State) : Host.Outcome State Fault Refusal :=
  s.request fun p => p.guard true false (p.fetchNotices count)

/-- R191: SetAttentionMask. -/
def execSetAttentionMask (mask : Nat) (s : State) : Host.Outcome State Fault Refusal :=
  s.request fun p => p.guard true false (p.setAttentionMask mask)

/-- R186: a complete station frame with a good CRC. -/
def execStationFrameReceived (kind : Byte) (tag : Byte) (payload : List Byte) (s : State) : Host.Outcome State Fault Refusal :=
  s.event fun p => p.stationFrame ⟨kind, tag, payload⟩

/-- R185: the gap gives up the frame in progress. -/
def execStationFrameGapTimeout (s : State) : Host.Outcome State Fault Refusal :=
  s.event fun p => p.giveUpFrame

/-- R185: a missing stop level gives up the frame in progress. The model's choice (log entry 10): the command is an error on the
station link's line, and the plant link's frame in progress stands (R175). -/
def execCharacterFramingError (s : State) : Host.Outcome State Fault Refusal :=
  s.event fun p => p.giveUpFrame

/-- R184: a break on the station link; nothing else in the part is reached by it. -/
def execLinkResynchronisation (s : State) : Host.Outcome State Fault Refusal :=
  s.event fun p => p.giveUpFrame

/-- R188: the last byte of the head request's reply has left. -/
def execReplySent (s : State) : Host.Outcome State Fault Refusal :=
  s.event fun p => p.replyLeft

/-- R188: the last byte of the BUSY reply has left. -/
def execBusyReplySent (s : State) : Host.Outcome State Fault Refusal :=
  s.event fun p => p.busyLeft

/-- R185: a byte arrives on the station link. -/
def execStationByteReceived (byte : Byte) (s : State) : Host.Outcome State Fault Refusal :=
  s.event fun p => p.stationByte byte

end Sys2Proof.Machine
end

