-- ==== Sys2Proof/Machine/Time.lean ====
section
/-! DEFINITION. The commands of the time base (07). One meaning for each; a request given as a command is the request as its owner takes it
(R187; log entry 1). -/

namespace Sys2Proof.Machine

/-- R157 to R160: SetTime. -/
def execSetTime (day : Nat) (second : Nat) (ms : Nat) (s : State) : Host.Outcome State Fault Refusal :=
  s.request fun p => p.guard true false (p.setTime day second ms)

/-- R161: ReadTime. -/
def execReadTime (s : State) : Host.Outcome State Fault Refusal :=
  s.reading fun p => (p.guard true false (p.readTimeAnswer, p)).1

/-- R156: the running clock reaches its next boundary (log entry 4). -/
def execIntervalBoundary (s : State) : Host.Outcome State Fault Refusal :=
  s.event fun p => p.reachBoundary

/-- R155: plant time reaches the end of its range (log entry 4). -/
def execEndOfRange (s : State) : Host.Outcome State Fault Refusal :=
  s.event fun p => p.reachEnd

end Sys2Proof.Machine
end

