-- ==== Sys2Proof/Machine/Trading.lean ====
section
/-! DEFINITION. The commands of the schedule (01). One meaning for each; a request given as a command is the request as its owner takes it
(R187; log entry 1). -/

namespace Sys2Proof.Machine

/-- R10, R199: WriteIntervals. -/
def execWriteIntervals (day : Nat) (first : Nat) (count : Nat) (records : List OfferedRecord) (s : State) : Host.Outcome State Fault Refusal :=
  s.request fun p => p.guard (records.length == count) false (p.writeIntervals day first count records)

/-- R24: ReadIntervals. -/
def execReadIntervals (day : Nat) (index : Nat) (s : State) : Host.Outcome State Fault Refusal :=
  s.reading fun p => (p.guard true false (p.readIntervalsAnswer day index, p)).1

/-- R13: BeginDayLoad. -/
def execBeginDayLoad (day : Nat) (s : State) : Host.Outcome State Fault Refusal :=
  s.request fun p => p.guard true false (p.beginDayLoad day)

/-- R14, R199: StageIntervals. -/
def execStageIntervals (first : Nat) (count : Nat) (records : List OfferedRecord) (s : State) : Host.Outcome State Fault Refusal :=
  s.request fun p => p.guard (records.length == count) false (p.stageIntervals first count records)

/-- R15: CommitDayLoad. -/
def execCommitDayLoad (s : State) : Host.Outcome State Fault Refusal :=
  s.request fun p => p.guard true false p.commitDayLoad

/-- R16: CancelDayLoad. -/
def execCancelDayLoad (s : State) : Host.Outcome State Fault Refusal :=
  s.request fun p => p.guard true false p.cancelDayLoad

/-- R18, R19: SetWindow. -/
def execSetWindow (index : Nat) (kind : Nat) (mask : Nat) (first : Nat) (last : Nat) (value : Int) (s : State) : Host.Outcome State Fault Refusal :=
  s.request fun p => p.guard true false (p.setWindow index kind mask first last value)

/-- R20: ClearWindow. -/
def execClearWindow (index : Nat) (s : State) : Host.Outcome State Fault Refusal :=
  s.request fun p => p.guard true false (p.clearWindow index)

/-- R20: ReadWindows. -/
def execReadWindows (s : State) : Host.Outcome State Fault Refusal :=
  s.reading fun p => (p.guard true false (p.readWindowsAnswer, p)).1

/-- R16: the discard timer expires; nothing where staging is closed. -/
def execStagingDiscardTimeout (s : State) : Host.Outcome State Fault Refusal :=
  s.event fun p => p.discardStaging

end Sys2Proof.Machine
end

