-- ==== Sys2Proof/Machine/Trips.lean ====
section
/-! DEFINITION. The commands of protection (06). One meaning for each; a request given as a command is the request as its owner takes it
(R187; log entry 1). -/

namespace Sys2Proof.Machine

/-- R150: AckTrip. -/
def execAckTrip (s : State) : Host.Outcome State Fault Refusal :=
  s.request fun p => p.guard true false p.ackTrip

/-- R151: ClearShutdown. -/
def execClearShutdown (s : State) : Host.Outcome State Fault Refusal :=
  s.request fun p => p.guard true false p.clearShutdown

/-- R152: ReadFaults. -/
def execReadFaults (s : State) : Host.Outcome State Fault Refusal :=
  s.reading fun p => (p.guard true false (p.readFaultsAnswer, p)).1

/-- R153: ClearFaults. -/
def execClearFaults (selector : Nat) (sequence : Nat) (s : State) : Host.Outcome State Fault Refusal :=
  s.request fun p => p.guard true false (p.clearFaults selector sequence)

/-- R138: SetGroupEnable. -/
def execSetGroupEnable (group : Nat) (value : Nat) (s : State) : Host.Outcome State Fault Refusal :=
  s.request fun p => p.guard true false (p.setGroupEnable group value)

end Sys2Proof.Machine
end

