-- ==== Sys2Proof/Machine/Dispatch.lean ====
section
/-! DEFINITION. One arm per command, each a direct call of its meaning. -/

namespace Sys2Proof.Machine

/-- The effect of a command on the part. -/
def exec (i : Instr) (s : State) : Host.Outcome State Fault Refusal :=
  match i with
  | .identify => Sys2Proof.Machine.execIdentify s
  | .readStatus => Sys2Proof.Machine.execReadStatus s
  | .setMode mode => Sys2Proof.Machine.execSetMode mode s
  | .loadConstants sect values => Sys2Proof.Machine.execLoadConstants sect values s
  | .readConstants sect => Sys2Proof.Machine.execReadConstants sect s
  | .restart => Sys2Proof.Machine.execRestart s
  | .setTime day second ms => Sys2Proof.Machine.execSetTime day second ms s
  | .readTime => Sys2Proof.Machine.execReadTime s
  | .writeIntervals day first count records => Sys2Proof.Machine.execWriteIntervals day first count records s
  | .readIntervals day index => Sys2Proof.Machine.execReadIntervals day index s
  | .beginDayLoad day => Sys2Proof.Machine.execBeginDayLoad day s
  | .stageIntervals first count records => Sys2Proof.Machine.execStageIntervals first count records s
  | .commitDayLoad => Sys2Proof.Machine.execCommitDayLoad s
  | .cancelDayLoad => Sys2Proof.Machine.execCancelDayLoad s
  | .setWindow index kind mask first last value => Sys2Proof.Machine.execSetWindow index kind mask first last value s
  | .clearWindow index => Sys2Proof.Machine.execClearWindow index s
  | .readWindows => Sys2Proof.Machine.execReadWindows s
  | .setManualTarget power => Sys2Proof.Machine.execSetManualTarget power s
  | .setRampGear gear => Sys2Proof.Machine.execSetRampGear gear s
  | .readSettlements => Sys2Proof.Machine.execReadSettlements s
  | .readDispatch => Sys2Proof.Machine.execReadDispatch s
  | .readInventory => Sys2Proof.Machine.execReadInventory s
  | .setHold count => Sys2Proof.Machine.execSetHold count s
  | .setFreeze value => Sys2Proof.Machine.execSetFreeze value s
  | .setBypass value => Sys2Proof.Machine.execSetBypass value s
  | .isolateVessel vessel => Sys2Proof.Machine.execIsolateVessel vessel s
  | .restoreVessel vessel => Sys2Proof.Machine.execRestoreVessel vessel s
  | .readVessels => Sys2Proof.Machine.execReadVessels s
  | .readMachines => Sys2Proof.Machine.execReadMachines s
  | .readCounters => Sys2Proof.Machine.execReadCounters s
  | .releaseLockout machine => Sys2Proof.Machine.execReleaseLockout machine s
  | .ackTrip => Sys2Proof.Machine.execAckTrip s
  | .clearShutdown => Sys2Proof.Machine.execClearShutdown s
  | .readFaults => Sys2Proof.Machine.execReadFaults s
  | .clearFaults selector sequence => Sys2Proof.Machine.execClearFaults selector sequence s
  | .setGroupEnable group value => Sys2Proof.Machine.execSetGroupEnable group value s
  | .fetchNotices count => Sys2Proof.Machine.execFetchNotices count s
  | .setAttentionMask mask => Sys2Proof.Machine.execSetAttentionMask mask s
  | .readLines => Sys2Proof.Machine.execReadLines s
  | .readSources selector => Sys2Proof.Machine.execReadSources selector s
  | .stationFrameReceived kind tag payload => Sys2Proof.Machine.execStationFrameReceived kind tag payload s
  | .stationFrameGapTimeout => Sys2Proof.Machine.execStationFrameGapTimeout s
  | .characterFramingError => Sys2Proof.Machine.execCharacterFramingError s
  | .linkResynchronisation => Sys2Proof.Machine.execLinkResynchronisation s
  | .replySent => Sys2Proof.Machine.execReplySent s
  | .busyReplySent => Sys2Proof.Machine.execBusyReplySent s
  | .plantFrameReceived frame => Sys2Proof.Machine.execPlantFrameReceived frame s
  | .plantFrameGapTimeout => Sys2Proof.Machine.execPlantFrameGapTimeout s
  | .plantLinkBreak => Sys2Proof.Machine.execPlantLinkBreak s
  | .recordTaken => Sys2Proof.Machine.execRecordTaken s
  | .sourceStale source => Sys2Proof.Machine.execSourceStale source s
  | .sourceLost source => Sys2Proof.Machine.execSourceLost source s
  | .orderFrameSent => Sys2Proof.Machine.execOrderFrameSent s
  | .orderRepeatDue dest => Sys2Proof.Machine.execOrderRepeatDue dest s
  | .orderUnconfirmed dest => Sys2Proof.Machine.execOrderUnconfirmed dest s
  | .intervalBoundary => Sys2Proof.Machine.execIntervalBoundary s
  | .counterSaveComplete => Sys2Proof.Machine.execCounterSaveComplete s
  | .endOfRange => Sys2Proof.Machine.execEndOfRange s
  | .stagingDiscardTimeout => Sys2Proof.Machine.execStagingDiscardTimeout s
  | .dispatchCycle => Sys2Proof.Machine.execDispatchCycle s
  | .dwellExpired => Sys2Proof.Machine.execDwellExpired s
  | .startTimerExpired machine => Sys2Proof.Machine.execStartTimerExpired machine s
  | .lingerExpired machine => Sys2Proof.Machine.execLingerExpired machine s
  | .counterTick => Sys2Proof.Machine.execCounterTick s
  | .switchTimeout machine => Sys2Proof.Machine.execSwitchTimeout machine s
  | .inputQualifiedChange line level => Sys2Proof.Machine.execInputQualifiedChange line level s
  | .constantsStoreComplete => Sys2Proof.Machine.execConstantsStoreComplete s
  | .warmRestart => Sys2Proof.Machine.execWarmRestart s
  | .powerOnReset => Sys2Proof.Machine.execPowerOnReset s
  | .stationByteReceived byte => Sys2Proof.Machine.execStationByteReceived byte s
  | .inputSample line level => Sys2Proof.Machine.execInputSample line level s

end Sys2Proof.Machine
end

