-- ==== Sys2Proof/Machine/Step.lean ====
section
/-! DEFINITION. The step: the command at the front of the queue is taken, or the part idles on its own clock. -/

namespace Sys2Proof.Machine

/-- The state with the rest of the queue, the front having been taken. -/
def State.withQueue (s : State) (rest : List Instr) : State := { s with pending := rest }

/-- One step: the first waiting command with the queue's rest, or what the part does of itself (log entry 2). -/
def step (s : State) : Host.Outcome State Fault Refusal :=
  match s.pending with
  | c :: rest => exec c (s.withQueue rest)
  | [] => .next (s.withPart s.part.idle)

/-- A command put at the front of the queue. -/
def State.withFront (s : State) (c : Instr) : State := { s with pending := c :: s.pending }

/-- The command that a table word spells, put at the front of the queue. No word spells one (log entry 27). -/
def State.withFetchWord (s : State) (nbits w : Nat) : State :=
  match Sys2Proof.decodeTableWord nbits w with
  | some c => s.withFront c
  | none => s

end Sys2Proof.Machine
end

