-- ==== Sys2Proof/Safety.lean ====
section
/-! DEFINITION. What counts as a safe state: the bounds and exclusions that the rules of spec/ state over the whole part; and
the names that the obligations use for a next state and for the notices posted. -/

namespace Sys2Proof.Machine

/-- R189: the notice queue holds at most 32 notices, at most one of them OVERFLOW, and that one is the newest. -/
def noticesOk (queue : List Notice) : Bool :=
  queue.length ≤ Config.noticeQueueSize && queue.dropLast.all fun n => n.kind != .overflow

/-- R189 as the queue is filled: 32 notices are held only with an OVERFLOW. -/
def noticesForm (queue : List Notice) : Bool :=
  noticesOk queue &&
    (queue.length < Config.noticeQueueSize ||
      match queue.getLast? with
      | some n => n.kind == .overflow
      | none => true)

/-- R191: attention is pending exactly while the notice queue is not empty. -/
def Ck4.attentionOk (p : Ck4) : Bool := p.station.attentionPending == !p.station.notices.isEmpty

/-- R139: the fault table holds at most 16 records. -/
def Ck4.tableOk (p : Ck4) : Bool := p.protection.table.length ≤ Config.faultTableSize

/-- R135: the shutdown field and the plant mode SHUTDOWN are set and cleared together. -/
def Ck4.shutdownOk (p : Ck4) : Bool := p.protection.shutdown == (p.mode == .shutdown)

/-- R87: no compressor train is in LOADING, LOADED or UNLOADING while an expansion string is. -/
def Ck4.directionsOk (p : Ck4) : Bool := !(p.dirInService .charge && p.dirInService .discharge)

/-- R63: the held vessels are exactly vessels 0 to n-1, and n is 0 to 7. -/
def Ck4.heldOk (p : Ck4) : Bool :=
  p.allocator.hold ≤ 7 && allVessels.all fun v => (p.vessel v).held == decide (vesselIndex v < p.allocator.hold)

/-- R132: the settlement log holds at most 16 records. -/
def Ck4.logOk (p : Ck4) : Bool := p.dispatch.log.length ≤ Config.settlementLogSize

/-- R171: every output is asserted exactly while the condition of its function holds. -/
def Ck4.outputsOk (p : Ck4) : Bool := p.lines.outputs.all fun o => o.asserted == p.outputCondition o.function

/-- R61: the use state of vessel `v` is the one that the binding of machine `m` gives it: SWITCHING_IN(m) exactly where it is the
target, SWITCHING_OUT(m) exactly where it is bound and a target is in flight, CHARGING(m) for a train and DISCHARGING(m) for a
string exactly where it is bound and none is, and never the use of the other direction. -/
def Ck4.useAgrees (p : Ck4) (v : VesselId) (m : MachineId) : Bool :=
  let b := p.binding m
  let u := (p.vessel v).use
  (u == .switchingIn m) == (b.target == some v) &&
  (u == .switchingOut m) == (b.bound == some v && b.target.isSome) &&
  (u == boundUse m) == (b.bound == some v && b.target.isNone) &&
  u != (match machineDir m with | .charge => .discharging m | .discharge => .charging m)

/-- R70 to R77, R83, R88: what the binding and the order phase of a machine may hold in its state. The switchover timer runs
exactly while there is a target. A target stands in LOADING
(with cause LOAD, no bound vessel and no bypass) and LOADED (with another cause) alone, bypass in LOADING and LOADED of a train with no bound vessel; IDLE,
STOPPED, STARTING and LOCKED_OUT have no bound vessel; a LOADED machine, and one in LOADING with its first LOAD placed or pending,
has a bound vessel or bypass; LOAD is the order of LOADING and LOADED alone. -/
def Ck4.bindingFits (p : Ck4) (m : MachineId) : Bool :=
  let b := p.binding m
  let r := p.mach m
  let loads := r.state == .loading || r.state == .loaded
  (b.timer.isSome == b.target.isSome) && (b.target.isNone || loads) &&
  (!b.bypass || (loads && machineDir m == .charge && b.bound.isNone)) &&
  (!(r.state == .loading && b.target.isSome) || (b.bound.isNone && !b.bypass && b.cause == some .load)) &&
  (!(r.state == .loaded && b.target.isSome) ||
    match b.cause with
    | some .full => true
    | some .empty => true
    | some .degraded => true
    | some .release => true
    | some .bypassExit => b.bound.isNone
    | _ => false) &&
  (b.bound.isNone || !(r.state == .idle || r.state == .stopped || r.state == .starting || r.state == .lockedOut)) &&
  (!(r.state == .loaded || (r.state == .loading && (r.firstLoadPlaced || r.loadPending))) || b.bound.isSome || b.bypass) &&
  (!r.firstLoadPlaced || loads) && (!r.loadPending || r.state == .loading)

/-- R61: no vessel is bound to or the target of two machines, every engaged vessel is the one its machine's binding names, and a
LOADED machine has a bound vessel or is a train in bypass; with what R70 to R77 keep beside it. -/
def Ck4.bindingsOk (p : Ck4) : Bool := (allVessels.all fun v => allMachines.all (p.useAgrees v)) && allMachines.all p.bindingFits

/-- R146: in SHUTDOWN every machine is STOPPING, STOPPED, TRIPPED or LOCKED_OUT, and its demand is NONE (R95); and what keeps it so:
a machine not adopted has not reported, and is TRIPPED or LOCKED_OUT in SHUTDOWN (R105), the start timer runs in STARTING alone
(R86) and the linger timer in IDLE alone (R93). -/
def Ck4.restOk (p : Ck4) : Bool :=
  allMachines.all fun m =>
    let r := p.mach m
    let tripped := r.state == .tripped || r.state == .lockedOut
    (p.mode != .shutdown ||
      ((tripped || (r.adopted && (r.state == .stopping || r.state == .stopped))) && r.demand == .none)) &&
    (r.startTimer.isNone || r.state == .starting) && (r.lingerTimer.isNone || r.state == .idle) && (r.adopted || (r.report.isNone && !r.stoppedSinceTrip))

/-- R120: reserve deployment lies within the bands resolved at the last cycle. -/
def Ck4.reserveOk (p : Ck4) : Bool := -(p.dispatch.t0Down : Int) ≤ p.dispatch.pRes && p.dispatch.pRes ≤ (p.dispatch.t0Up : Int)

/-- R81, R83, R88: the ordered setpoint is that of the order phase, 0 to 32767, and 0 for every order but LOAD; a machine with load
pending has no LOAD order. -/
def MachineRecord.setpointOk (r : MachineRecord) : Bool :=
  r.setpoint == r.phase.setpoint && r.setpoint ≤ 32767 && (r.firstLoadPlaced || r.setpoint == 0) &&
    !(r.loadPending && r.firstLoadPlaced)

/-- R81 to R83: the ordered setpoints are in range; and what keeps them so: machines are LOADING or LOADED in AUTO and MANUAL
alone (R95), every section is good in STANDBY, AUTO and MANUAL (R192), and the values of the MACHINES section, stored or in
flight, are in their ranges (R193). -/
def Ck4.setpointsOk (p : Ck4) : Bool :=
  (allMachines.all fun m =>
    (p.mach m).setpointOk && (p.running || !((p.mach m).state == .loading || (p.mach m).state == .loaded))) &&
  (p.mode == .unconfigured || p.mode == .shutdown || p.allGood) &&
  (machineRanges p.constants.sections.machines.values ||
    (p.constants.sections.machines.values.isEmpty && !p.constants.sections.machines.good)) &&
  match p.constants.store with
  | some st => st.sect != .machines || machineRanges st.values
  | none => true

/-- Every mode but UNCONFIGURED: the requests of R187 reach their owners. -/
def State.served (s : State) : Prop := s.part.mode ≠ .unconfigured

/-- The state after an event whose effect on the part is `p`: the end of the step follows (log entry 11). -/
def State.ended (s : State) (p : Ck4) : State := s.withPart p.finish

/-- The state after a request whose owner answers `a` and leaves the part `p` (log entries 1, 11). -/
def State.answered (s : State) (a : Answer) (p : Ck4) : State := s.withPart (p.record a).finish

/-- The state after a request that only reads, answered `a` (log entry 1). -/
def State.told (s : State) (a : Answer) : State := s.withPart (s.part.record a)

/-- R189: a notice queue after some notices are posted, in turn. -/
def queueAfter (queue posted : List Notice) : List Notice := posted.foldl enqueueNotice queue

/-- R106: MACHINE_STATE for a transition that `p` makes of machine `m`. -/
def Ck4.moveNotice (p : Ck4) (m : MachineId) (old new : MachineState) (c : Cause) : Notice :=
  ⟨.machineState, p.stamp, machineIndex m, (65536 * machineStateCode old + 256 * machineStateCode new + causeCode c : Nat)⟩

/-- R71: VESSEL_SWITCHED for machine `m`, from what its binding names to what `new` names. -/
def Ck4.switchNotice (p : Ck4) (m : MachineId) (new : Nat) : Notice :=
  let old := match (p.binding m).bound with
    | some v => vesselIndex v
    | none => if (p.binding m).bypass then 8 else 15
  ⟨.vesselSwitched, p.stamp, machineIndex m, (16 * old + new : Nat)⟩

/-- R139, R140: what `p` posts for a fault of an enabled group: FAULT_RECORDED where the table has room, else nothing. -/
def Ck4.faultNotices (p : Ck4) (f : FaultReport) : List Notice :=
  if p.protection.table.length < 16 then
    [⟨.faultRecorded, p.stamp, f.subject, (65536 * p.protection.nextSequence + 256 * reasonCode f.reason + 16 * groupCode f.group +
      severityCode f.severity : Nat)⟩]
  else []

/-- R97, R106: what a trip command posts for machine `m`: nothing in LOCKED_OUT; in TRIPPED its passing to LOCKED_OUT, where it has
stopped since and is to be locked out; elsewhere its entry into TRIPPED. -/
def Ck4.tripNotices (p : Ck4) (restartValid : Bool) (m : MachineId) : List Notice :=
  let r := p.mach m
  match r.state with
  | .lockedOut => []
  | .tripped =>
    if r.stoppedSinceTrip = true ∧ (r.lockoutPending = true ∨ restartValid = false) then [p.moveNotice m .tripped .lockedOut .lockout]
    else []
  | old => [p.moveNotice m old .tripped .trip]

/-- R145, R146: what a PLANT fault posts before its trip commands: TRIP_BEGUN, or SHUTDOWN where a trip is in progress, or nothing where
SHUTDOWN holds already (R147). -/
def Ck4.plantNotices (p : Ck4) (f : FaultReport) : List Notice :=
  let seq := p.protection.nextSequence
  if p.protection.tripInProgress then
    if p.protection.shutdown then [] else [⟨.shutdown, p.stamp, seq, (p.protection.lastTripOrigin.getD 0 : Nat)⟩]
  else [⟨.tripBegun, p.stamp, seq, (256 * reasonCode f.reason + 16 * groupCode f.group : Nat)⟩]

/-- The bounds of the queues, tables and logs of a state. -/
def State.queuesOk (s : State) : Bool :=
  noticesForm s.part.station.notices && s.part.attentionOk && s.part.tableOk && s.part.logOk

end Sys2Proof.Machine
end

