-- ==== Sys2Proof/Certificates/Slice0/Obligations.lean ====
section
/-! DEFINITION. The statements for the provers. `s.ended p`, `s.answered a p` and `s.told a` are the next states of an event,
of a request that may change the part, and of a request that reads (Sys2Proof/Safety.lean); what the end of a step may change
is said once, by `EndOfStepFrame`. -/

open Sys2Proof Sys2Proof.Machine

/-! ### The whole machine -/

/-- The command at the front of the queue is taken, and the queue keeps its rest. -/
def Obligations.StepTakesFrontCommand : Prop :=
  ∀ (c : Instr) (p : Ck4) (rest : List Instr), step ⟨p, c :: rest⟩ = exec c ⟨p, rest⟩

/-- The model's choice (log entry 2): with no command waiting, an event that is due is taken; where none is, one millisecond passes
(07 section 7.1, R155, R156): the elapsed count and every running timer move by one in every mode, and plant time with them while it
is valid and has not stopped, carrying into the second; the millisecond that reaches a boundary takes it, as INTERVAL_BOUNDARY does
(`BoundaryAndEndOfRange`, log entry 4). At the last instant of day 65,534, with no other event due, what is due is the stop of
END_OF_RANGE, taken at that same millisecond. -/
def Obligations.IdleStepPassesTime : Prop :=
  (∀ p q : Ck4, p.due = some q → step ⟨p, []⟩ = .next ⟨q.finish, []⟩) ∧
  (∀ p : Ck4, p.due = none →
    let clock : TimeBase :=
      if p.time.valid = false ∨ p.time.endOfRange = true then p.time
      else if p.time.ms < 999 then { p.time with ms := p.time.ms + 1 }
      else { p.time with second := p.time.second + 1, ms := 0 }
    p.time.valid = false ∨ p.time.endOfRange = true ∨ p.time.ms < 999 ∨
      (p.time.ms = 999 ∧ p.time.second < 86399 ∧ (p.time.second + 1) % 900 ≠ 0) →
    ∃ q : Ck4, step ⟨p, []⟩ = .next ⟨q.finish, []⟩ ∧
      q.time = { clock with elapsed := p.time.elapsed + 1 } ∧
      q.dispatch = { p.dispatch with
        cycleTimer := p.dispatch.cycleTimer - 1
        dwell := p.dispatch.dwell.map fun t => { t with remaining := t.remaining - 1 } } ∧
      q.sequencer = { p.sequencer with machines := q.sequencer.machines, counterTimer := p.sequencer.counterTimer - 1 } ∧
      (∀ m, q.mach m = { p.mach m with
        startTimer := (p.mach m).startTimer.map (· - 1), lingerTimer := (p.mach m).lingerTimer.map (· - 1) }) ∧
      q.allocator = { p.allocator with bindings := q.allocator.bindings } ∧
      (∀ m, q.binding m = { p.binding m with timer := (p.binding m).timer.map (· - 1) }) ∧
      q.plantLink = { p.plantLink with machineSlots := q.plantLink.machineSlots, vesselSlots := q.plantLink.vesselSlots } ∧
      (∀ d, q.slot d = { p.slot d with
        confirmTimer := (p.slot d).confirmTimer.map (· - 1), repeatTimer := (p.slot d).repeatTimer.map (· - 1) }) ∧
      q.schedule = { p.schedule with staging := p.schedule.staging.map fun g => { g with timer := g.timer - 1 } } ∧
      q.inventory = p.inventory ∧ q.protection = p.protection ∧ q.lines = p.lines ∧ q.station = p.station ∧
      q.constants = p.constants) ∧
  (∀ p : Ck4, p.due = none → p.time.valid = true → p.time.endOfRange = false → p.time.ms = 999 →
    (p.time.second + 1) % 900 = 0 → p.time.second ≤ 86399 → p.time.day ≤ 65534 →
    ¬ (p.time.day = 65534 ∧ p.time.second = 86399) → step ⟨p, []⟩ = exec .intervalBoundary ⟨p, []⟩) ∧
  (∀ p : Ck4, p.time.valid = true → p.time.endOfRange = false → p.time.day = 65534 → p.time.second = 86399 → p.time.ms = 999 →
    Ck4.due { p with time := { p.time with endOfRange := true } } = none → step ⟨p, []⟩ = exec .endOfRange ⟨p, []⟩)

/-- Every command is taken in every state: no fault, no refusal, and the queue behind it untouched. -/
def Obligations.EveryCommandCompletes : Prop :=
  ∀ (c : Instr) (s : State), ∃ p : Ck4, exec c s = .next ⟨p, s.pending⟩

/-- What the end of a step may change: the save in flight, what the two transmitters send, and the outputs (log entry 11); and what
it starts: the counter save that is asked for (one for all that a step asks, log entry 47), with the slot and the number of R109 (a
slot with a bad CRC counts as older), the waiting BUSY reply before the reply of the head request (R188), and the order that the
oldest due slot holds at that moment, with its sequence (R180, R179). While a restart waits for no reply nothing is sent to the
station (log entry 31). 12.2, R198: the bytes of the frame of a machine order and of a route order. -/
def Obligations.EndOfStepFrame : Prop :=
  (∀ p : Ck4,
    let saves : Prop := p.sequencer.saveAsked = true ∧ p.sequencer.save = none ∧ p.constants.store = none
    let savedTo (slot : Bool) (number : Nat) : Prop := p.finish.sequencer =
      { p.sequencer with saveAsked := false, save := some ⟨slot, number, p.stamp, p.counters⟩ }
    let sends (tx : StationTx) (r : Reply) : Prop := p.finish.station = { p.station with tx := tx, sending := some r.bytes }
    let restartNow : Prop := p.station.restartAsked = true ∧ p.station.headReply = none
    p.finish.schedule = p.schedule ∧ p.finish.inventory = p.inventory ∧ p.finish.allocator = p.allocator ∧
    p.finish.dispatch = p.dispatch ∧ p.finish.protection = p.protection ∧ p.finish.time = p.time ∧
    p.finish.constants = p.constants ∧ p.finish.lines.inputs = p.lines.inputs ∧
    p.finish.lines.outputs.map (fun o => (o.function, o.polarity)) = p.lines.outputs.map (fun o => (o.function, o.polarity)) ∧
    p.finish.sequencer = { p.sequencer with save := p.finish.sequencer.save, saveAsked := p.finish.sequencer.saveAsked } ∧
    (p.sequencer.saveAsked = false ∨ p.sequencer.save.isSome = true ∨ p.constants.store.isSome = true →
      p.finish.sequencer = p.sequencer) ∧
    (saves → p.constants.slotA.good = false → p.constants.slotB.good = false → savedTo false 1) ∧
    (saves → p.constants.slotA.good = false → p.constants.slotB.good = true → savedTo false (p.constants.slotB.number + 1)) ∧
    (saves → p.constants.slotA.good = true → p.constants.slotB.good = false → savedTo true (p.constants.slotA.number + 1)) ∧
    (saves → p.constants.slotA.good = true → p.constants.slotB.good = true →
      (p.constants.slotA.number ≤ p.constants.slotB.number → savedTo false (p.constants.slotB.number + 1)) ∧
      (p.constants.slotB.number < p.constants.slotA.number → savedTo true (p.constants.slotA.number + 1))) ∧
    p.finish.station = { p.station with tx := p.finish.station.tx, sending := p.finish.station.sending } ∧
    (p.station.tx ≠ .idle ∨ restartNow ∨ (p.station.busyReply = none ∧ p.station.headReply = none) →
      p.finish.station = p.station) ∧
    (∀ r, p.station.tx = .idle → ¬ restartNow → p.station.busyReply = some r → sends .busy r) ∧
    (∀ r, p.station.tx = .idle → p.station.busyReply = none → p.station.headReply = some r → sends .reply r) ∧
    p.finish.plantLink = { p.plantLink with
      transmitList := p.finish.plantLink.transmitList, transmission := p.finish.plantLink.transmission } ∧
    (p.plantLink.transmission.isSome = true ∨ p.plantLink.transmitList = [] ∨ p.constants.sections.port.good = false →
      p.finish.plantLink = p.plantLink) ∧
    (∀ d rest o, p.plantLink.transmission = none → p.plantLink.transmitList = d :: rest → p.constants.sections.port.good = true →
      (p.slot d).order = some o →
      p.finish.plantLink = { p.plantLink with
        transmitList := rest
        transmission := some ⟨d, orderBytes (p.source (p.sourceIndexOf d)).address ((p.slot d).sequence.getD 0) o, false, false⟩ })) ∧
  (∀ (address seq : Nat) (o : Order), address ≤ 255 → seq ≤ 255 →
    let b := orderBytes address seq o
    let byte (n : Nat) : Nat := (b.getD n 0).toNat
    byte 0 = 0xD3 ∧ byte 1 = 0x1C ∧ frameGood (b.drop 2) = true ∧ byte 3 = 0 ∧ byte 5 = 0 ∧ byte 6 = address ∧ byte 7 = seq ∧
    (∀ k sp, o = .machine k sp → b.length = 13 ∧ byte 2 = 5 ∧ byte 4 = 0x60 ∧
      byte 8 = (match k with | .start => 0 | .load => 1 | .unload => 2 | .stop => 3 | .trip => 4) ∧
      (k = .load → sp ≤ 65535 → byte 9 + 256 * byte 10 = sp) ∧ (k ≠ .load → byte 9 = 0 ∧ byte 10 = 0)) ∧
    (∀ r, o = .route r → b.length = 12 ∧ byte 2 = 4 ∧ byte 4 = 0x61 ∧
      (r = .none → byte 8 = 0 ∧ byte 9 = 255) ∧ (∀ m, r = .charge m → byte 8 = 1 ∧ byte 9 = machineIndex m) ∧
      (∀ m, r = .discharge m → byte 8 = 2 ∧ byte 9 = machineIndex m)))

/-- R171 as an invariant: after every step each output is asserted exactly while the condition of its function holds; and those
conditions, function by function. -/
def Obligations.OutputsInvariant : Prop :=
  (∀ s t : State, s.part.outputsOk = true → step s = .next t → t.part.outputsOk = true) ∧
  (∀ p : Ck4, p.outputsOk = true → ∀ o ∈ p.lines.outputs,
    (o.function = .none → o.asserted = false) ∧
    (o.function = .plantTrip → (o.asserted = true ↔ p.protection.tripInProgress = true ∨ p.protection.shutdown = true)) ∧
    (o.function = .compTrip → (o.asserted = true ↔
      (∃ m, machineDir m = .charge ∧ (p.mach m).state = .tripped) ∨ p.protection.shutdown = true)) ∧
    (o.function = .expTrip → (o.asserted = true ↔
      (∃ m, machineDir m = .discharge ∧ (p.mach m).state = .tripped) ∨ p.protection.shutdown = true)) ∧
    (o.function = .attention → (o.asserted = true ↔ p.station.attentionPending = true ∧ p.station.masked = false)) ∧
    (o.function = .shutdown → (o.asserted = true ↔ p.protection.shutdown = true)) ∧
    (o.function = .bypassCooler → (o.asserted = true ↔ ∃ m, machineDir m = .charge ∧ (p.binding m).bypass = true)) ∧
    (o.function = .reserveActive → (o.asserted = true ↔ p.dispatch.pRes ≠ 0)))

/-- R132, R139, R189, R191 as an invariant: the notice queue holds at most 32 notices with OVERFLOW only as its newest and
always where it holds 32, attention is pending exactly while it is not empty, and the fault table and the settlement log hold
at most 16 records. -/
def Obligations.QueuesInvariant : Prop :=
  ∀ s t : State, s.queuesOk = true → step s = .next t → t.queuesOk = true

/-- R87 as an invariant: machines of the two directions are never in service together. -/
def Obligations.DirectionsInvariant : Prop :=
  ∀ s t : State, s.part.directionsOk = true → step s = .next t → t.part.directionsOk = true

/-- R63 as an invariant: the held vessels are exactly vessels 0 to n - 1 and n is at most 7. -/
def Obligations.HeldVesselsInvariant : Prop :=
  ∀ s t : State, s.part.heldOk = true → step s = .next t → t.part.heldOk = true

/-- R135 as an invariant: the shutdown field and the plant mode SHUTDOWN stand together. -/
def Obligations.ShutdownInvariant : Prop :=
  ∀ s t : State, s.part.shutdownOk = true → step s = .next t → t.part.shutdownOk = true

/-- R61 as an invariant, with what R70 to R77 keep beside it: the use of every vessel is the one that the bindings give it. No
vessel is then bound to, or the target of, two machines, a LOADED machine has a bound vessel or is a train in bypass, and the
switchover timer of a machine runs exactly while it has a target (R69, R74). -/
def Obligations.BindingsInvariant : Prop :=
  (∀ s t : State, s.part.bindingsOk = true → step s = .next t → t.part.bindingsOk = true) ∧
  (∀ p : Ck4, p.bindingsOk = true →
    (∀ v m k, (p.binding m).bound = some v ∨ (p.binding m).target = some v →
      (p.binding k).bound = some v ∨ (p.binding k).target = some v → m = k) ∧
    (∀ m, (p.mach m).state = .loaded →
      (p.binding m).bound.isSome = true ∨ (machineDir m = .charge ∧ (p.binding m).bypass = true)) ∧
    (∀ v, (p.vessel v).use.engaged = true ↔ ∃ m, (p.binding m).bound = some v ∨ (p.binding m).target = some v) ∧
    (∀ m, (p.binding m).timer.isSome = true ↔ (p.binding m).target.isSome = true))

/-- R146 as an invariant, with what keeps it so (R86, R93, R95, R105): in SHUTDOWN every machine is STOPPING, STOPPED, TRIPPED or
LOCKED_OUT with demand NONE, and one not adopted is TRIPPED or LOCKED_OUT; in every mode the start timer runs in STARTING alone,
the linger timer in IDLE alone, and a machine not adopted has no report. -/
def Obligations.ShutdownMachinesInvariant : Prop :=
  (∀ s t : State, s.part.restOk = true → step s = .next t → t.part.restOk = true) ∧
  (∀ p : Ck4, p.restOk = true → ∀ m,
    (p.mode = .shutdown →
      ((p.mach m).state = .stopping ∨ (p.mach m).state = .stopped ∨ (p.mach m).state = .tripped ∨
        (p.mach m).state = .lockedOut) ∧ (p.mach m).demand = .none ∧
      ((p.mach m).adopted = false → (p.mach m).state = .tripped ∨ (p.mach m).state = .lockedOut)) ∧
    ((p.mach m).startTimer.isSome = true → (p.mach m).state = .starting) ∧
    ((p.mach m).lingerTimer.isSome = true → (p.mach m).state = .idle) ∧
    ((p.mach m).adopted = false → (p.mach m).report = none))

/-- R120 as an invariant: P_res lies within the bands resolved at the last cycle. R81, R83 as an invariant, beside that of the
bindings: every ordered setpoint is that of the order phase and at most 32767, and is above 0 only where that order is LOAD. -/
def Obligations.ReserveAndSetpointsInvariant : Prop :=
  (∀ s t : State, s.part.reserveOk = true → step s = .next t → t.part.reserveOk = true) ∧
  (∀ s t : State, s.part.bindingsOk = true → s.part.setpointsOk = true → step s = .next t → t.part.setpointsOk = true) ∧
  (∀ p : Ck4, p.setpointsOk = true → ∀ m, (p.mach m).setpoint ≤ 32767 ∧
    (0 < (p.mach m).setpoint → (p.mach m).phase.kind = some .load))

/-- The invariants above and those of the machines (R61, R146, R120, R81 to R83) hold right after reset. Reset is the power-on of a
blank part (the model's choice, log entry 5). -/
def Obligations.ResetMeetsInvariants : Prop :=
  State.reset.part.outputsOk = true ∧ State.reset.queuesOk = true ∧ State.reset.part.directionsOk = true ∧
  State.reset.part.heldOk = true ∧ State.reset.part.shutdownOk = true ∧ State.reset.part.bindingsOk = true ∧
  State.reset.part.restOk = true ∧ State.reset.part.reserveOk = true ∧ State.reset.part.setpointsOk = true

/-! ### Requests that read -/

/-- A request that reads changes nothing but the model's record of its answer. R192: in UNCONFIGURED every request but seven is
answered NOT_CONFIGURED and is not handed to its owner. -/
def Obligations.ReadsAndUnconfiguredRequests : Prop :=
  (∀ s : State,
      (∀ c ∈ ([.identify, .readStatus, .readTime, .readWindows, .readSettlements, .readDispatch, .readInventory, .readVessels,
          .readMachines, .readCounters, .readFaults, .readLines] : List Instr), ∃ a, exec c s = .next (s.told a)) ∧
      (∀ n, ∃ a, exec (.readConstants n) s = .next (s.told a)) ∧
      (∀ d i, ∃ a, exec (.readIntervals d i) s = .next (s.told a)) ∧
      (∀ n, ∃ a, exec (.readSources n) s = .next (s.told a))) ∧
  (∀ s : State, s.part.mode = .unconfigured →
      (∀ c ∈ ([.readTime, .readWindows, .readSettlements, .readDispatch, .readInventory, .readVessels, .readMachines,
          .readCounters, .readFaults] : List Instr), exec c s = .next (s.told (refuse .notConfigured))) ∧
      (∀ d i, exec (.readIntervals d i) s = .next (s.told (refuse .notConfigured))) ∧
      (∀ c ∈ ([.commitDayLoad, .cancelDayLoad, .ackTrip, .clearShutdown] : List Instr),
        exec c s = .next (s.answered (refuse .notConfigured) s.part)) ∧
      (∀ n, ∀ c ∈ ([.setMode n, .beginDayLoad n, .clearWindow n, .setRampGear n, .setHold n, .setFreeze n, .setBypass n,
          .isolateVessel n, .restoreVessel n, .releaseLockout n, .fetchNotices n, .setAttentionMask n] : List Instr),
        exec c s = .next (s.answered (refuse .notConfigured) s.part)) ∧
      (∀ a b, ∀ c ∈ ([.clearFaults a b, .setGroupEnable a b] : List Instr),
        exec c s = .next (s.answered (refuse .notConfigured) s.part)) ∧
      (∀ z, exec (.setManualTarget z) s = .next (s.answered (refuse .notConfigured) s.part)) ∧
      (∀ d x ms, exec (.setTime d x ms) s = .next (s.answered (refuse .notConfigured) s.part)) ∧
      (∀ d f n os, exec (.writeIntervals d f n os) s = .next (s.answered (refuse
        (if os.length = n then .notConfigured else .badLength)) s.part)) ∧
      (∀ f n os, exec (.stageIntervals f n os) s = .next (s.answered (refuse
        (if os.length = n then .notConfigured else .badLength)) s.part)) ∧
      (∀ i k m f l v, exec (.setWindow i k m f l v) s = .next (s.answered (refuse .notConfigured) s.part)))

/-- R196: Identify and ReadStatus, in every mode; the silicon revision is a free value (log entry 13). R193, last paragraph:
ReadConstants; a section with a bad CRC gives no values (R192). R161 ReadTime and R24 ReadIntervals. -/
def Obligations.IdentityConstantsTimeIntervalsAnswers : Prop :=
  (∀ s : State,
      exec .identify s = .next (s.told ⟨.ok, .identity
        { vendor := 0x4447, part := 0x0C04, revision := Config.siliconRevision, trains := 3, strings := 2, vessels := 8
          layers := 12, windows := 16, faultRecords := 16, notices := 32, sources := 24, inputs := 16, outputs := 8
          settlements := 16, maxPayload := 480, reserve := true, bypass := true, stagedLoad := true }⟩) ∧
      exec .readStatus s = .next (s.told ⟨.ok, .status
        { mode := s.part.constants.mode
          good := [s.part.constants.sections.cavern.good, s.part.constants.sections.energy.good,
            s.part.constants.sections.machines.good, s.part.constants.sections.vessels.good,
            s.part.constants.sections.market.good, s.part.constants.sections.port.good, s.part.constants.sections.lines.good]
          storeInFlight := s.part.constants.store.isSome, restored := s.part.sequencer.restored
          timeValid := s.part.time.valid, tripInProgress := s.part.protection.tripInProgress
          shutdown := s.part.protection.shutdown, inventory := s.part.inventory.state
          notices := s.part.station.notices.length, attentionPending := s.part.station.attentionPending
          masked := s.part.station.masked, tripped := s.part.countIn .tripped, lockedOut := s.part.countIn .lockedOut }⟩)) ∧
  (∀ (n : Nat) (s : State),
      (n ≥ 7 → exec (.readConstants n) s = .next (s.told ⟨.argRange, .none⟩)) ∧
      (∀ id, sectionOf n = some id →
        ((s.part.constants.sections.get id).good = true →
          exec (.readConstants n) s = .next (s.told ⟨.ok, .constants
            { values := (s.part.constants.sections.get id).values, good := true
              storeInFlight := s.part.constants.store.isSome }⟩)) ∧
        ((s.part.constants.sections.get id).good = false →
          exec (.readConstants n) s = .next (s.told ⟨.ok, .constants
            { values := [], good := false, storeInFlight := s.part.constants.store.isSome }⟩)))) ∧
  (∀ s : State, s.served →
      (∃ highest, exec .readTime s = .next (s.told ⟨.ok, .time
        { valid := s.part.time.valid, endOfRange := s.part.time.endOfRange, day := s.part.time.day
          second := s.part.time.second, ms := s.part.time.ms
          active := if s.part.time.valid then some (s.part.time.second / 900) else none
          remaining := if s.part.time.valid then 900 - s.part.time.second % 900 else 0
          lead := s.part.gateLead, highestFixed := highest, elapsedSeconds := s.part.time.elapsed / 1000
          lastStep := s.part.time.lastStep }⟩) ∧
        (∀ i, highest = some i → i < 192 ∧ (s.part.schedule.record i).status.writable = false ∧
          ∀ j, i < j → j < 192 → (s.part.schedule.record j).status.writable = true) ∧
        (highest = none → ∀ j, j < 192 → (s.part.schedule.record j).status.writable = true)) ∧
      (∀ day i, s.part.time.valid = false → exec (.readIntervals day i) s = .next (s.told ⟨.timeInvalid, .none⟩)) ∧
      (∀ day i, s.part.time.valid = true → (s.part.schedule.pageBase day = none ∨ i > 95) →
        exec (.readIntervals day i) s = .next (s.told ⟨.argRange, .none⟩)) ∧
      (∀ day i base, s.part.time.valid = true → s.part.schedule.pageBase day = some base → i ≤ 95 →
        exec (.readIntervals day i) s = .next (s.told ⟨.ok, .intervals
          ([0, 1, 2, 3].map fun j =>
            { index := i / 4 * 4 + (i + j) % 4, record := s.part.schedule.record (base + (i / 4 * 4 + (i + j) % 4))
              resolved := (s.part.projectedResolution (s.part.time.second / 900)
                (base + (i / 4 * 4 + (i + j) % 4))).power })⟩)))

/-- The answers of R133 ReadSettlements, R80 ReadVessels and R152 ReadFaults. -/
def Obligations.SettlementsVesselsFaultsAnswers : Prop :=
  (∀ s : State, s.served →
      exec .readSettlements s = .next (s.told ⟨.ok, .settlements s.part.dispatch.log.length s.part.dispatch.log⟩)) ∧
  (∀ s : State, s.served →
      exec .readVessels s = .next (s.told ⟨.ok, .allocator
        { vessels := allVessels.map fun v =>
            { reported := (s.part.vessel v).reported, layers := (s.part.vessel v).layers, valid := (s.part.vessel v).valid
              invalidCount := (s.part.vessel v).invalidCount, content := (s.part.vessel v).content
              condition := (s.part.vessel v).condition, use := (s.part.vessel v).use, held := (s.part.vessel v).held
              stored := (s.part.vessel v).stored, usable := (s.part.vessel v).usable, room := (s.part.vessel v).room
              eligibleCharge := s.part.eligibleCharge v, eligibleDischarge := s.part.eligibleDischarge v
              route := (s.part.vessel v).route }
          hold := s.part.allocator.hold, freeze := s.part.allocator.freeze
          bypassRequested := s.part.allocator.bypassRequested, bypassPermitted := s.part.allocator.bypassPermitted
          tree := s.part.allocator.tree, hFree := s.part.hFree, hRoom := s.part.hRoom, hHeld := s.part.hHeld
          reserve := s.part.allocator.reserve
          bindings := allMachines.map fun m =>
            { bound := (s.part.binding m).bound, target := (s.part.binding m).target, bypass := (s.part.binding m).bypass
              cause := (s.part.binding m).cause
              seconds := match (s.part.binding m).timer with | none => 0 | some ms => (ms + 999) / 1000 } }⟩)) ∧
  (∀ s : State, s.served →
      exec .readFaults s = .next (s.told ⟨.ok, .faults
        { enables := s.part.protection.enables, tripInProgress := s.part.protection.tripInProgress
          shutdown := s.part.protection.shutdown, lastTripOrigin := s.part.protection.lastTripOrigin
          overflow := s.part.protection.overflow, nextSequence := s.part.protection.nextSequence
          count := s.part.protection.table.length
          records := match s.part.protection.table with
            | [] => []
            | oldest :: rest => (true, oldest) :: rest.map fun r => (false, r) }⟩))

/-- R134 ReadDispatch, R172 ReadLines, R183 ReadSources, and R20's ReadWindows. The target capacity is that of R124 for the
direction of S; of the other direction it is 0, the model's choice (log entry 33). Dispatch shows the ratings and R_plant that it
uses (R112, log entry 39). R53 ReadInventory with the two energies of R43, 0 in UNSEEDED; that they are 0 also in a seeded inventory
while the CRC of ENERGY is bad is read from R192 (log entry 9). R111 ReadMachines and R110 ReadCounters with the EOH and average
load of R108. -/
def Obligations.InventoryMachinesDispatchLinesAnswers : Prop :=
  (∀ s : State,
    exec .readLines s = .next (s.told ⟨.ok, .lines
      { inputs := s.part.lines.inputs.map fun i =>
          { function := i.function, polarity := i.polarity, checkCode := i.checkCode, raw := i.raw, qualified := i.qualified
            active := i.qualified.map (levelActive i.polarity) }
        outputs := s.part.lines.outputs.map fun o =>
          { function := o.function, polarity := o.polarity, asserted := o.asserted
            level := if o.asserted == (o.polarity == .activeHigh) then .high else .low }
        inForce := s.part.constants.sections.lines.good, bypassAllowed := s.part.coolerAllows }⟩) ∧
    (∀ n, n ≤ 23 → exec (.readSources n) s = .next (s.told ⟨.ok, .source (s.part.source n).address (s.part.source n).kind
      (s.part.source n).unit (s.part.source n).state (s.part.source n).held⟩)) ∧
    (∀ n, n > 23 → n ≠ 255 → exec (.readSources n) s = .next (s.told ⟨.argRange, .none⟩)) ∧
    exec (.readSources 255) s = .next (s.told ⟨.ok, .link
      { inForce := s.part.constants.sections.port.good
        entries := s.part.plantLink.sources.map fun e =>
          { address := e.address, kind := e.kind, unit := e.unit, state := e.state, lastSequence := e.lastSequence
            age := e.arrival.map fun a => s.part.time.elapsed - a }
        tStale := [.compressor, .expander, .vessel, .cavern, .gridMeter].map s.part.tStale
        tLost := [.compressor, .expander, .vessel, .cavern, .gridMeter].map s.part.tLost
        orderRepeat := s.part.orderRepeat, orderConfirm := s.part.orderConfirm
        slots := (allMachines.map Dest.machine ++ allVessels.map Dest.vessel).map fun d =>
          { status := (s.part.slot d).status, order := (s.part.slot d).order, sequence := (s.part.slot d).sequence
            lastGiven := (s.part.slot d).lastGiven, confirmMs := (s.part.slot d).confirmTimer.getD 0
            repeatMs := (s.part.slot d).repeatTimer.getD 0, transmissions := (s.part.slot d).transmissions }
        queued := s.part.plantLink.queue.length, waiting := s.part.plantLink.transmitList.length
        framingErrors := s.part.plantLink.framingErrors, drops := s.part.plantLink.drops
        rejects := s.part.plantLink.rejects, duplicates := s.part.plantLink.duplicates }⟩) ∧
    (s.served →
      let committed (m : MachineId) : Nat := if (s.part.mach m).demand = .serve ∧ ((s.part.mach m).state = .starting ∨
        (s.part.mach m).state = .idle ∨ (s.part.mach m).state = .loading ∨ (s.part.mach m).state = .loaded ∨
        (s.part.mach m).state = .unloading) then s.part.dispatchRating m else 0
      exec .readDispatch s = .next (s.told ⟨.ok, .dispatch
        { t0 := s.part.dispatch.t0, up := s.part.dispatch.t0Up, down := s.part.dispatch.t0Down, s := s.part.dispatch.s
          gear := s.part.dispatch.gear, rampStep := max 1 (s.part.dispatchRamp / 2 ^ s.part.dispatch.gear)
          manualTarget := s.part.dispatch.manualTarget, frequency := s.part.dispatch.frequency, meter := s.part.dispatch.meter
          pRes := s.part.dispatch.pRes, f := s.part.dispatch.f, clamp := s.part.dispatch.clamp
          dwellBlocked := s.part.dispatch.dwell.map (·.blocked)
          dwellSeconds := match s.part.dispatch.dwell with | none => 0 | some t => (t.remaining + 999) / 1000
          permitDischarge := s.part.dispatch.permitDischarge, permitCharge := s.part.dispatch.permitCharge
          targetCharge := if s.part.dispatch.s < 0 then s.part.dispatch.s.natAbs + s.part.dispatch.t0Down else 0
          targetDischarge := if 0 < s.part.dispatch.s then s.part.dispatch.s.natAbs + s.part.dispatch.t0Up else 0
          committedCharge := ([.c1, .c2, .c3].map committed).sum, committedDischarge := ([.e1, .e2].map committed).sum
          reserveSum := s.part.dispatch.reserveSum, shortfallSum := s.part.dispatch.shortfallSum
          cycles := s.part.dispatch.cycles, meterLost := s.part.dispatch.meterLost
          startExport := s.part.dispatch.startExport, startImport := s.part.dispatch.startImport
          number := s.part.dispatch.number }⟩)) ∧
    (s.served → exec .readWindows s = .next (s.told ⟨.ok, .windows s.part.schedule.windows⟩))) ∧
  (∀ s : State, s.served →
      let mass (heat per : Nat) : Nat := heat * 10000 / per
      let absent : Prop := s.part.inventory.state = .unseeded ∨ s.part.constants.sections.energy.good = false
      let eDis : Nat := if absent then 0
        else min s.part.inventory.wDis (mass s.part.hFree s.part.hDis) * s.part.yDis / 10000
      let eChg : Nat := if absent then 0
        else if s.part.allocator.bypassPermitted then s.part.inventory.wChg * s.part.yChg / 10000
        else min s.part.inventory.wChg (mass s.part.hRoom s.part.hChg) * s.part.yChg / 10000
      exec .readInventory s = .next (s.told ⟨.ok, .inventory
        { state := s.part.inventory.state, drift := s.part.inventory.drift, m := s.part.inventory.m
          pEst := s.part.inventory.pEst, lastPressure := s.part.inventory.lastPressure
          residual := s.part.inventory.residual, temperature := s.part.inventory.temperature
          mMin := s.part.inventory.mMin, mMax := s.part.inventory.mMax, wDis := s.part.inventory.wDis
          wChg := s.part.inventory.wChg, dischargeMargin := s.part.inventory.dischargeMargin
          chargeMargin := s.part.inventory.chargeMargin, mStep := s.part.inventory.mStep
          pRateDis := s.part.inventory.pRateDis, pRateChg := s.part.inventory.pRateChg, eDis := eDis
          eChg := eChg, hFree := s.part.hFree, hRoom := s.part.hRoom, hHeld := s.part.hHeld
          stored := s.part.inventory.stored }⟩)) ∧
  (∀ s : State, s.served →
      let eoh (m : MachineId) : Nat := (s.part.mach m).counters.runSeconds +
        (s.part.mach m).counters.starts * s.part.startPenalty + (s.part.mach m).counters.trips * s.part.tripPenalty
      exec .readMachines s = .next (s.told ⟨.ok, .machines (allMachines.map fun m =>
        { state := (s.part.mach m).state, adopted := (s.part.mach m).adopted, report := (s.part.mach m).report
          power := (s.part.mach m).power, inlet := (s.part.mach m).inlet, source := (s.part.mach m).source
          demand := (s.part.mach m).demand, phase := (s.part.mach m).phase, setpoint := (s.part.mach m).setpoint
          loadPending := (s.part.mach m).loadPending
          startSeconds := match (s.part.mach m).startTimer with | none => 0 | some ms => (ms + 999) / 1000
          lingerSeconds := match (s.part.mach m).lingerTimer with | none => 0 | some ms => (ms + 999) / 1000
          startFailed := (s.part.mach m).startFailed, controllerTripHanded := (s.part.mach m).controllerTripHanded
          lockoutPending := (s.part.mach m).lockoutPending, stoppedSinceTrip := (s.part.mach m).stoppedSinceTrip
          acknowledged := (s.part.mach m).acknowledged, correcting := (s.part.mach m).correcting
          last := (s.part.mach m).last, eoh := eoh m })⟩) ∧
      exec .readCounters s = .next (s.told ⟨.ok, .counters
        (allMachines.map fun m =>
          { counters := (s.part.mach m).counters, eoh := eoh m
            averageLoad := if (s.part.mach m).counters.loadedSeconds = 0 then 0
              else (s.part.mach m).counters.loadMs / (s.part.mach m).counters.loadedSeconds
            startPenalty := s.part.startPenalty, tripPenalty := s.part.tripPenalty })
        s.part.sequencer.restored s.part.sequencer.lastSave⟩))

/-! ### Constants, mode and restarts -/

/-- R194: SetMode; and R95, R89: what SetMode from AUTO or MANUAL to STANDBY does to the machines: every demand ends; LOADED, and
LOADING with its first LOAD placed, pass to UNLOADING with UNLOAD; IDLE, and LOADING without it by way of IDLE, pass to STOPPING
with STOP; each with cause MODE, and a machine in another state stays in it. -/
def Obligations.SetModeResult : Prop :=
  (∀ s : State, s.served →
      (∀ n, n ≠ 1 → n ≠ 2 → n ≠ 3 → exec (.setMode n) s = .next (s.answered ⟨.argRange, .none⟩ s.part)) ∧
      (s.part.mode = .shutdown → ∀ n, 1 ≤ n → n ≤ 3 → exec (.setMode n) s = .next (s.answered ⟨.wrongMode, .none⟩ s.part)) ∧
      (s.part.mode = .standby →
        exec (.setMode 1) s = .next (s.answered ⟨.ok, .mode .standby⟩ s.part) ∧
        (s.part.time.valid = false →
          ∀ n, 2 ≤ n → n ≤ 3 → exec (.setMode n) s = .next (s.answered ⟨.timeInvalid, .none⟩ s.part)) ∧
        (s.part.time.valid = true → s.part.protection.tripInProgress = true →
          ∀ n, 2 ≤ n → n ≤ 3 → exec (.setMode n) s = .next (s.answered ⟨.busy, .none⟩ s.part))) ∧
      (s.part.mode = .auto → exec (.setMode 2) s = .next (s.answered ⟨.ok, .mode .auto⟩ s.part)) ∧
      (s.part.mode = .manual → exec (.setMode 3) s = .next (s.answered ⟨.ok, .mode .manual⟩ s.part)) ∧
      (s.part.mode = .manual ∨
          (s.part.mode = .standby ∧ s.part.time.valid = true ∧ s.part.protection.tripInProgress = false) →
        exec (.setMode 2) s = .next (s.answered ⟨.ok, .mode .auto⟩
          { s.part with constants := { s.part.constants with mode := .auto } })) ∧
      (s.part.mode = .auto ∨
          (s.part.mode = .standby ∧ s.part.time.valid = true ∧ s.part.protection.tripInProgress = false) →
        exec (.setMode 3) s = .next (s.answered ⟨.ok, .mode .manual⟩
          { s.part with
            constants := { s.part.constants with mode := .manual }, dispatch := { s.part.dispatch with manualTarget := 0 } }))) ∧
  (∀ s : State, s.part.mode = .auto ∨ s.part.mode = .manual →
      ∃ t : State, exec (.setMode 1) s = .next t ∧ t.pending = s.pending ∧ t.part.mode = .standby ∧
        t.part.station.answer = some ⟨.ok, .mode .standby⟩ ∧
        t.part.protection = s.part.protection ∧ t.part.time = s.part.time ∧ t.part.schedule = s.part.schedule ∧
        t.part.inventory = s.part.inventory ∧ t.part.constants.sections = s.part.constants.sections ∧
        ∀ m, (t.part.mach m).demand = .none ∧ (t.part.mach m).loadPending = false ∧
          (t.part.mach m).state ≠ .idle ∧ (t.part.mach m).state ≠ .loading ∧ (t.part.mach m).state ≠ .loaded ∧
          ((s.part.mach m).state ≠ .idle → (s.part.mach m).state ≠ .loading → (s.part.mach m).state ≠ .loaded →
            t.part.mach m = { s.part.mach m with demand := .none, loadPending := false }) ∧
          ((s.part.mach m).state = .loaded ∨ ((s.part.mach m).state = .loading ∧ (s.part.mach m).phase.kind = some .load) →
            t.part.mach m = { s.part.mach m with
              state := .unloading, last := ⟨(s.part.mach m).state, .unloading, .mode, s.part.stamp⟩, demand := .none
              phase := ⟨some .unload, 0, false⟩, setpoint := 0, loadPending := false, correcting := false } ∧
            (t.part.slot (.machine m)).order = some (.machine .unload 0)) ∧
          ((s.part.mach m).state = .idle ∨ ((s.part.mach m).state = .loading ∧ (s.part.mach m).phase.kind ≠ some .load) →
            t.part.mach m = { s.part.mach m with
              state := .stopping, last := ⟨.idle, .stopping, .mode, s.part.stamp⟩, demand := .none
              phase := ⟨some .stop, 0, false⟩, setpoint := 0, lingerTimer := none, loadPending := false, correcting := false } ∧
            (t.part.slot (.machine m)).order = some (.machine .stop 0)))

/-- R193, R187: LoadConstants and its checks in their order. R193, R192: the store in flight completes, in any mode: the section
takes its values and their CRC and is good, the flag clears, every other section stands, and CONSTANTS_STORED is posted.
UNCONFIGURED is left where every section is good, and that mode change is handed to the sequencer (R95); a machine is then in
neither LOADING nor LOADED (`ReserveAndSetpointsInvariant`). For MACHINES and MARKET, whose readers take the values when they next
need them (R82, R6), the whole next state where the mode stays: dispatch goes on using the MACHINES values it had until its next
cycle (R112; log entry 39). `SectionsHandedOn` says what the others hand on. A completion with no store in flight does nothing (log
entry 29); the CRC is that of the model's layout of a section's bytes (log entry 8). R193 and the tables it names (02 section 2.2,
03 section 3.1, 04 section 4.1, R6, R112, R165, R171, R174): the number of values of each section and the values that are in range;
that an unused entry of PORT has address 0 and unit 0, and the cavern and the grid meter unit 0, is the model's reading (log entry
14). -/
def Obligations.LoadAndStoreConstants : Prop :=
  (∀ (n : Nat) (values : List Int) (s : State),
    exec (.loadConstants n values) s = .next (
      if loadLengthGood n values = false then s.answered ⟨.badLength, .none⟩ s.part
      else if s.part.mode ≠ .unconfigured ∧ s.part.mode ≠ .standby then s.answered ⟨.wrongMode, .none⟩ s.part
      else match sectionOf n with
        | none => s.answered ⟨.argRange, .none⟩ s.part
        | some id =>
          if sectionRanges id values = false then s.answered ⟨.argRange, .none⟩ s.part
          else if s.part.constants.store.isSome ∨ s.part.sequencer.save.isSome then s.answered ⟨.busy, .none⟩ s.part
          else s.answered ⟨.ok, .none⟩
            { s.part with constants := { s.part.constants with store := some ⟨id, values⟩ } })) ∧
  (∀ (n : Nat) (values : List Int), loadLengthGood n values = true ↔ 6 < n ∨ values.length = [10, 4, 21, 13, 4, 84, 64].getD n 0) ∧
  (∀ values : List Int,
    let v (i : Nat) : Int := values.getD i 0
    let lies (i : Nat) (low high : Int) : Prop := low ≤ v i ∧ v i ≤ high
    (sectionRanges .cavern values = true ↔ lies 0 10000 10000000 ∧ lies 1 250000 320000 ∧ 1000 ≤ v 2 ∧ v 3 ≤ 30000 ∧
      500 ≤ v 3 - v 2 ∧ lies 4 0 1000 ∧ lies 5 10 2000 ∧ lies 6 5 500 ∧ lies 7 2 6 ∧ lies 8 2 32 ∧ lies 9 1 10000000) ∧
    (sectionRanges .energy values = true ↔ ∀ i, i < 4 → lies i 100 5000) ∧
    (sectionRanges .machines values = true ↔
      (∀ i, i < 5 → lies (3 * i) 1 32767 ∧ lies (3 * i + 1) 0 (v (3 * i)) ∧ lies (3 * i + 2) 60 1800) ∧
      lies 15 0 36000 ∧ lies 16 0 36000 ∧ lies 17 0 3600 ∧ lies 18 0 3600 ∧ lies 19 1 1000 ∧ lies 20 0 32767) ∧
    (sectionRanges .vessels values = true ↔ (∀ i, i < 8 → lies i 10 50000) ∧ (∀ i, 8 ≤ i → i ≤ 11 → lies i (-2730) 32767) ∧
      v 8 < v 9 ∧ v 8 < v 10 ∧ v 10 ≤ v 11 ∧ v 9 ≤ v 11 ∧ lies 12 10 600) ∧
    (sectionRanges .market values = true ↔
      lies 0 1 16 ∧ (v 1 = 50000 ∨ v 1 = 60000) ∧ lies 2 0 1000 ∧ lies 3 (v 2 + 1) 5000) ∧
    (sectionRanges .port values = true ↔
      let address (i : Nat) : Int := v (3 * i)
      let kind (i : Nat) : Int := v (3 * i + 1)
      let unit (i : Nat) : Int := v (3 * i + 2)
      (∀ i, i < 24 → (kind i = 0 ∧ address i = 0 ∧ unit i = 0) ∨ (1 ≤ address i ∧ address i ≤ 254 ∧
        ((kind i = 1 ∧ 1 ≤ unit i ∧ unit i ≤ 3) ∨ (kind i = 2 ∧ 1 ≤ unit i ∧ unit i ≤ 2) ∨
          (kind i = 3 ∧ 0 ≤ unit i ∧ unit i ≤ 7) ∨ ((kind i = 4 ∨ kind i = 5) ∧ unit i = 0)))) ∧
      (∀ s ∈ ([(1, 1), (1, 2), (1, 3), (2, 1), (2, 2), (3, 0), (3, 1), (3, 2), (3, 3), (3, 4), (3, 5), (3, 6), (3, 7), (4, 0),
          (5, 0)] : List (Int × Int)),
        ∃ i, i < 24 ∧ kind i = s.1 ∧ unit i = s.2 ∧ ∀ k, k < 24 → kind k = s.1 → unit k = s.2 → k = i) ∧
      (∀ i k, i < k → k < 24 → kind i ≠ 0 → kind k ≠ 0 → address i ≠ address k) ∧
      (∀ i, i < 5 → lies (72 + i) 100 5000 ∧ lies (77 + i) (v (72 + i)) 30000) ∧ lies 82 200 2000 ∧ lies 83 1 30) ∧
    (sectionRanges .lines values = true ↔
      (∀ i, i < 16 → lies (3 * i) 0 15 ∧ lies (3 * i + 1) 0 1 ∧ lies (3 * i + 2) 0 7) ∧
      (∀ i k, i < k → k < 16 → v (3 * i) ≠ 0 → v (3 * i) ≠ v (3 * k)) ∧
      (∀ i, i < 8 → lies (48 + 2 * i) 0 7 ∧ lies (49 + 2 * i) 0 1))) ∧
  (∀ s : State,
    (s.part.constants.store = none → exec .constantsStoreComplete s = .next (s.ended s.part)) ∧
    (∀ id values, s.part.constants.store = some ⟨id, values⟩ →
      ∃ t : State, exec .constantsStoreComplete s = .next t ∧ t.pending = s.pending ∧
        t.part.constants.store = none ∧
        t.part.constants.sections = s.part.constants.sections.set id ⟨values, sectionCrc values, true⟩ ∧
        t.part.mode = (if s.part.mode = .unconfigured ∧ t.part.allGood = true then .standby else s.part.mode) ∧
        (∃ n ∈ t.part.station.notices, n.kind = .overflow ∨
          n = ⟨.constantsStored, s.part.stamp, sectionCode id, ((sectionCrc values).toNat : Nat)⟩) ∧
        (s.part.mode = .unconfigured → t.part.mode = .standby → s.part.setpointsOk = true → ∀ m,
          (t.part.mach m).demand = .none ∧ (t.part.mach m).loadPending = false ∧ (t.part.mach m).state ≠ .idle ∧
          (t.part.mach m).state ≠ .loading ∧ (t.part.mach m).state ≠ .loaded)) ∧
    (∀ id values, s.part.constants.store = some ⟨id, values⟩ → id = .market ∨ id = .machines →
      let held := if id = .machines ∧ s.part.constants.sections.machines.good = true ∧ s.part.dispatch.held = none then
        some s.part.constants.sections.machines.values else s.part.dispatch.held
      let stored : Ck4 := { s.part with
        dispatch := { s.part.dispatch with held := held }
        constants := { s.part.constants with
          sections := s.part.constants.sections.set id ⟨values, sectionCrc values, true⟩, store := none } }
      (s.part.mode ≠ .unconfigured ∨ stored.allGood = false → exec .constantsStoreComplete s = .next (s.ended
        (stored.post .constantsStored (sectionCode id) ((sectionCrc values).toNat : Nat)))) ∧
      (s.part.mode = .unconfigured → stored.allGood = true → s.part.setpointsOk = true →
        ∃ t : State, exec .constantsStoreComplete s = .next t ∧ t.part.dispatch = stored.dispatch ∧
          (∀ m, t.part.mach m = (if (s.part.mach m).state = .idle then { s.part.mach m with
              state := .stopping, last := ⟨.idle, .stopping, .mode, s.part.stamp⟩, demand := .none, phase := ⟨some .stop, 0, false⟩
              setpoint := 0, lingerTimer := none, loadPending := false, correcting := false }
            else { s.part.mach m with demand := .none, loadPending := false })) ∧
          (∀ m, (s.part.mach m).state = .idle → (t.part.slot (.machine m)).order = some (.machine .stop 0)) ∧
          t.part.allocator = s.part.allocator ∧ t.part.protection = s.part.protection ∧ t.part.inventory = s.part.inventory ∧
          t.part.schedule = s.part.schedule ∧ t.part.time = s.part.time ∧ t.part.lines.inputs = s.part.lines.inputs)))

/-- R26, R32, R92, R56, R165, R171, R65, R173, R174, R177, R192: what a completed store of the CAVERN, ENERGY, VESSELS, LINES or
PORT section hands to its readers, in every mode; a figure derived from a section that is still bad is kept (R192; log entry 9). The
store that leaves UNCONFIGURED hands the mode change on too (`LoadAndStoreConstants`), which changes machines in IDLE and their
orders; no machine is then in LOADING or LOADED (`ReserveAndSetpointsInvariant`). The clause on the vessels is of states in which
the bindings agree (`BindingsInvariant`). R174, R177, R178: what an entry that a PORT store changes, or whose age the new thresholds
find above, hands to its owner, where its source stands in no other entry, with its notice, and the fault of an age alone. The
model's choices: order slots keep their running timers at a PORT store (log entry 42), and what log entries 21 and 22 say of the
figures recomputed and the sources changed by a store. -/
def Obligations.SectionsHandedOn : Prop :=
  ∀ (s : State) (id : SectionId) (values : List Int), s.part.constants.store = some ⟨id, values⟩ →
    let p : Ck4 := { s.part with constants := { s.part.constants with
      sections := s.part.constants.sections.set id ⟨values, sectionCrc values, true⟩, store := none } }
    let last : Prop := s.part.mode = .unconfigured ∧ p.allGood = true
    (last → s.part.setpointsOk = true) →
    ∃ t : State, exec .constantsStoreComplete s = .next t ∧ t.pending = s.pending ∧ t.part.time = s.part.time ∧
      t.part.schedule = s.part.schedule ∧
      (id = .cavern ∨ id = .energy → p.constants.sections.cavern.good = false → t.part.inventory = s.part.inventory ∧
        t.part.sequencer.machines = s.part.sequencer.machines) ∧
      (id = .cavern ∨ id = .energy → p.constants.sections.cavern.good = true →
        (∀ temperature, s.part.inventory.temperature = some temperature →
          let den := p.gas * (temperature + 2732).toNat
          let step := p.dpMax * p.volume * 10000000 / (den * 4)
          t.part.inventory.mMin = (p.pMin * p.volume * 10000000 + den - 1) / den ∧
          t.part.inventory.mMax = p.pMax * p.volume * 10000000 / den ∧ t.part.inventory.mStep = step ∧
          (p.constants.sections.energy.good = true → t.part.inventory.pRateDis = step * p.yDis / 10000 / 25 ∧
            t.part.inventory.pRateChg = step * p.yChg / 10000 / 25) ∧
          (p.constants.sections.energy.good = false → t.part.inventory.pRateDis = s.part.inventory.pRateDis ∧
            t.part.inventory.pRateChg = s.part.inventory.pRateChg) ∧
          (s.part.inventory.state ≠ .unseeded → t.part.inventory.pEst = min 65535
            ((2 * (s.part.inventory.m * den) + p.volume * 10000000) / (2 * (p.volume * 10000000))))) ∧
        (s.part.inventory.temperature = none →
          t.part.inventory.mMin = s.part.inventory.mMin ∧ t.part.inventory.mMax = s.part.inventory.mMax ∧
          t.part.inventory.mStep = s.part.inventory.mStep ∧ t.part.inventory.pRateDis = s.part.inventory.pRateDis ∧
          t.part.inventory.pRateChg = s.part.inventory.pRateChg) ∧
        (s.part.inventory.state ≠ .unseeded →
          t.part.inventory.wDis = s.part.inventory.m - t.part.inventory.mMin ∧
          t.part.inventory.wChg = t.part.inventory.mMax - s.part.inventory.m ∧
          t.part.inventory.dischargeMargin = decide (t.part.inventory.pEst < p.pMin + p.pMargin) ∧
          t.part.inventory.chargeMargin = decide (t.part.inventory.pEst > p.pMax - p.pMargin)) ∧
        t.part.inventory.m = s.part.inventory.m ∧ t.part.inventory.state = s.part.inventory.state ∧
        t.part.inventory.drift = s.part.inventory.drift ∧ t.part.inventory.baseline = s.part.inventory.baseline ∧
        t.part.inventory.stored = s.part.inventory.stored ∧
        (∀ m, (s.part.inventory.dischargeMargin = false → t.part.inventory.dischargeMargin = true → machineDir m = .discharge →
            (t.part.mach m).state ≠ .loaded ∧ (t.part.mach m).state ≠ .loading) ∧
          (s.part.inventory.chargeMargin = false → t.part.inventory.chargeMargin = true → machineDir m = .charge →
            (t.part.mach m).state ≠ .loaded ∧ (t.part.mach m).state ≠ .loading))) ∧
      (id = .vessels → s.part.bindingsOk = true → ∀ v,
        let r := s.part.vessel v
        let ls := substituteLayers r.layers r.valid
        let condition : Condition :=
          if r.reported = true ∧ r.condition = .normal ∧ r.invalidCount > 3 then .degraded else r.condition
        let full : Bool := p.tFullBottom ≤ ls.getD 11 0
        let out : Bool := condition = .degraded || !r.reported
        { t.part.vessel v with use := r.use } = { r with
          layers := ls, condition := condition
          stored := sumNat (ls.map fun x => layerHeat (p.c10 v) p.tBase x)
          usable := if out then 0 else sumNat ((ls.filter fun x => p.tReheatMin ≤ x).map fun x => layerHeat (p.c10 v) p.tBase x)
          room := if out || full then 0 else sumNat (ls.map fun x => layerRoom (p.c10 v) p.tChargeMax x)
          content := if r.reported = false then .empty
            else if full then .full else if ls.getD 0 0 < p.tReheatMin then .empty else .partly }) ∧
      (id = .lines → s.part.lines.inputs.length = 16 → s.part.lines.outputs.length = 8 →
        (∀ i, i < 16 → t.part.input i = { s.part.input i with
          function := inputFunctionOf (values.getD (3 * i) 0), polarity := polarityOf (values.getD (3 * i + 1) 0)
          checkCode := (values.getD (3 * i + 2) 0).toNat }) ∧
        t.part.lines.outputs.map (fun o => (o.function, o.polarity)) = (List.range 8).map (fun i =>
          (outputFunctionOf (values.getD (48 + 2 * i) 0), polarityOf (values.getD (49 + 2 * i) 0))) ∧
        t.part.outputsOk = true ∧
        t.part.allocator.bypassPermitted = (s.part.allocator.bypassRequested && t.part.coolerAllows) ∧
        (t.part.allocator.bypassPermitted = true ∨ s.part.allocator.bypassPermitted = false →
          last ∨ t.part.sequencer.machines = s.part.sequencer.machines) ∧
        (t.part.allocator.bypassPermitted = false → s.part.allocator.bypassPermitted = true → ∀ m, machineDir m = .charge →
          (s.part.binding m).bypass = true → (s.part.mach m).state = .loaded →
          (t.part.mach m).state = .unloading ∧ (t.part.mach m).last = ⟨.loaded, .unloading, .bypassLost, s.part.stamp⟩ ∧
          (t.part.binding m).bypass = false) ∧
        (t.part.allocator.bypassPermitted = s.part.allocator.bypassPermitted → t.part.inventory = s.part.inventory) ∧
        (t.part.allocator.bypassPermitted ≠ s.part.allocator.bypassPermitted → t.part.inventory = (Ck4.runProjection
          { p with allocator := { p.allocator with bypassPermitted := t.part.allocator.bypassPermitted } }).inventory)) ∧
      (id = .port → s.part.plantLink.sources.length = 24 → sectionRanges .port values = true →
        (∀ i, i < 24 →
          let e := s.part.source i
          let n := newEntry values i
          let age (limit : Nat) : Prop := ∃ a, e.arrival = some a ∧ limit ≤ s.part.time.elapsed - a
          (e.address ≠ n.address ∨ e.kind ≠ n.kind ∨ e.unit ≠ n.unit → t.part.source i = n) ∧
          (e.address = n.address → e.kind = n.kind → e.unit = n.unit →
            (e.kind = .unused ∨ e.state = .lost ∨ (¬ age (p.tStale e.kind)) ∨
              (e.state = .stale ∧ ¬ age (p.tLost e.kind)) → t.part.source i = e) ∧
            (e.kind ≠ .unused → e.state ≠ .lost → age (p.tLost e.kind) →
              t.part.source i = { e with state := .lost, lastSequence := none }) ∧
            (e.kind ≠ .unused → e.state = .fresh → age (p.tStale e.kind) → ¬ age (p.tLost e.kind) →
              t.part.source i = { e with state := .stale }))) ∧
        (∀ i, i < 24 →
          let e := s.part.source i
          let n := newEntry values i
          let changed : Prop := e.address ≠ n.address ∨ e.kind ≠ n.kind ∨ e.unit ≠ n.unit
          let age (limit : Nat) : Prop := ∃ a, e.arrival = some a ∧ limit ≤ s.part.time.elapsed - a
          let aged : Prop := ¬ changed ∧ e.kind ≠ .unused ∧ e.state ≠ .lost ∧ age (p.tLost e.kind)
          let gone : Prop := (changed ∧ e.state ≠ .lost) ∨ aged
          let stale : Prop := ¬ changed ∧ e.kind ≠ .unused ∧ e.state = .fresh ∧ age (p.tStale e.kind) ∧ ¬ age (p.tLost e.kind)
          let alone : Prop := ∀ k, k < 24 → k ≠ i → (s.part.source k).kind = e.kind →
            e.kind ≠ .cavern ∧ e.kind ≠ .gridMeter ∧ (s.part.source k).unit ≠ e.unit
          let posted (old new : Nat) : Prop := ∃ x ∈ t.part.station.notices, x.kind = .overflow ∨
            x = ⟨.sourceState, s.part.stamp, i, (65536 * e.address + 256 * old + new : Nat)⟩
          let handed (now : SourceState) : Prop :=
            (∀ m, e.machine = some m → (t.part.mach m).source = now ∧
              (now = .lost → t.part.inventory.baseline.get m = none)) ∧
            (∀ v, e.kind = .vessel → vesselOf e.unit = some v → (t.part.vessel v).source = now ∧
              (now = .lost → (t.part.vessel v).condition = .degraded ∧
                ((s.part.vessel v).condition = .normal → (t.part.vessel v).usable = 0 ∧ (t.part.vessel v).room = 0))) ∧
            (e.kind = .cavern →
              (s.part.inventory.state = .unseeded ∨ s.part.inventory.state = .frozen →
                t.part.inventory.state = s.part.inventory.state) ∧
              (s.part.inventory.state ≠ .unseeded → s.part.inventory.state ≠ .frozen →
                t.part.inventory.state = .frozen ∧ t.part.inventory.resume = s.part.inventory.state)) ∧
            (e.kind = .gridMeter → t.part.dispatch.meter = now ∧
              t.part.dispatch.meterLost = (s.part.dispatch.meterLost || decide (now = .lost)))
          (alone → gone → handed .lost) ∧ (alone → stale → handed .stale) ∧
          (alone → ¬ gone → ¬ stale →
            (∀ m, e.machine = some m → (t.part.mach m).source = (s.part.mach m).source ∧
              t.part.inventory.baseline.get m = s.part.inventory.baseline.get m) ∧
            (∀ v, e.kind = .vessel → vesselOf e.unit = some v → (t.part.vessel v).source = (s.part.vessel v).source) ∧
            (e.kind = .cavern → t.part.inventory.state = s.part.inventory.state) ∧
            (e.kind = .gridMeter → t.part.dispatch.meter = s.part.dispatch.meter ∧
              t.part.dispatch.meterLost = s.part.dispatch.meterLost)) ∧
          (changed → e.state ≠ .lost → posted (sourceStateCode e.state) 2) ∧ (stale → posted 0 1) ∧
          (aged → posted (if e.state = .stale ∨ p.tStale e.kind ≠ p.tLost e.kind then 1 else 0) 2 ∧
            (s.part.protection.enables.port = true →
              (16 ≤ t.part.protection.table.length ∨ ∃ r ∈ t.part.protection.table, r.fault = ⟨.port, .lost, i, (e.address : Nat),
                if e.kind = .compressor ∨ e.kind = .expander then .machine else .warn, true⟩) ∧
              ∀ m, e.machine = some m → (t.part.mach m).state = .tripped ∨ (t.part.mach m).state = .lockedOut))) ∧
        (s.part.protection.enables.port = false ∨ (∀ i, i < 24 →
            let e := s.part.source i
            let n := newEntry values i
            e.address ≠ n.address ∨ e.kind ≠ n.kind ∨ e.unit ≠ n.unit ∨ e.kind = .unused ∨ e.state = .lost ∨
              ∀ a, e.arrival = some a → s.part.time.elapsed - a < p.tLost e.kind) →
          t.part.protection = s.part.protection) ∧
        ((∀ i, i < 24 → s.part.source i = newEntry values i) →
          (last ∨ t.part.sequencer.machines = s.part.sequencer.machines) ∧ t.part.allocator = s.part.allocator ∧
          t.part.protection = s.part.protection ∧
          ∀ d, (last → ∀ m, d ≠ .machine m) → t.part.slot d = (if s.part.constants.sections.port.good = false ∧ (s.part.slot d).status = .waiting then
            { s.part.slot d with confirmTimer := some (1000 * p.orderConfirm) } else s.part.slot d)))

/-- R195 Restart, and what a warm restart keeps and clears, block by block (R25, R54, R55, R77, R96, R112, R175, R179, R180, R184,
R188, R195), at whatever moment it comes (log entry 31). The notices queued before it are gone, and what is queued after it, the
restart has posted. R96: how each machine is taken up; left out is a train in bypass whose permission the restart withdraws (R65),
which is unloaded before the sequencer takes it up. Where no machine is in LOADING and the permission stands, no vessel is allocated
and no machine goes out of service, so the tree and the dwell timer stand too, and the notices are the restart's own transitions,
machine by machine in index order (log entry 40). That a target freed by the restart makes no vessel eligible for a train in bypass
in LOADED (R66, R76), so that no other vessel gets an order and the tree stands, is the model's reading (log entry 32). -/
def Obligations.RestartResults : Prop :=
  ∀ s : State,
    exec .restart s = .next (s.answered ⟨.ok, .none⟩ { s.part with station := { s.part.station with restartAsked := true } }) ∧
    exec .warmRestart s = exec .warmRestart { s with part := { s.part with station := { s.part.station with
      notices := [], attentionPending := false } } } ∧
    ∃ t : State, exec .warmRestart s = .next t ∧ t.pending = s.pending ∧
      t.part.time = s.part.time ∧ t.part.protection = s.part.protection ∧ t.part.lines.inputs = s.part.lines.inputs ∧
      t.part.constants = { s.part.constants with
        mode := if s.part.mode = .shutdown ∨ s.part.mode = .unconfigured then s.part.mode else .standby } ∧
      t.part.schedule = { s.part.schedule with staging := none } ∧
      t.part.dispatch = { s.part.dispatch with manualTarget := 0, dwell := t.part.dispatch.dwell } ∧
      t.part.plantLink = { s.part.plantLink with
        queue := [], phase := .hunt, inProgress := none, lastByte := none
        machineSlots := t.part.plantLink.machineSlots, vesselSlots := t.part.plantLink.vesselSlots
        transmitList := t.part.plantLink.transmitList, transmission := t.part.plantLink.transmission } ∧
      t.part.station = { s.part.station with
        phase := .hunt, inProgress := none, lastByte := none, queue := [], busyReply := none, headReply := none, tx := .idle
        sending := none, restartAsked := false
        notices := t.part.station.notices, attentionPending := t.part.station.attentionPending } ∧
      (∀ m, (t.part.mach m).counters = (s.part.mach m).counters ∧
        (t.part.mach m).state ≠ .loading ∧ (t.part.mach m).state ≠ .loaded) ∧
      let kept : Prop := s.part.mode = .shutdown ∨ s.part.mode = .unconfigured
      let permitted : Bool := s.part.allocator.bypassRequested && s.part.coolerAllows
      let confirm := if s.part.constants.sections.port.good = true then some (1000 * s.part.orderConfirm) else none
      let cleared (d : Dest) : Slot := { Slot.powerOn with lastGiven := (s.part.slot d).lastGiven }
      let placed (d : Dest) (o : Order) : Slot :=
        let n := if (s.part.slot d).lastGiven ≥ 255 then 1 else (s.part.slot d).lastGiven + 1
        ⟨some o, some n, n, .waiting, confirm, none, 0⟩
      t.part.inventory = { s.part.inventory with stored := t.part.inventory.stored } ∧
      (permitted = s.part.allocator.bypassPermitted → t.part.inventory.stored = s.part.inventory.stored) ∧
      t.part.allocator = { s.part.allocator with
        bypassPermitted := permitted, tree := t.part.allocator.tree
        vessels := t.part.allocator.vessels, bindings := t.part.allocator.bindings } ∧
      (∀ v, t.part.vessel v = { s.part.vessel v with use := (t.part.vessel v).use }) ∧
      (∀ m, (t.part.binding m).target = none ∧ (t.part.binding m).timer = none) ∧
      (∀ d, t.part.slot d = cleared d ∨
        ((t.part.slot d).order.isSome = true ∧ (t.part.slot d).status = .waiting ∧ (t.part.slot d).confirmTimer = confirm ∧
          (t.part.slot d).repeatTimer = none ∧ (t.part.slot d).transmissions = 0)) ∧
      (∀ x, s.part.plantLink.transmission = some x →
        (t.part.plantLink.transmission.map fun y => { y with replaced := x.replaced }) = some { x with released := true } ∧
        ∀ d, d ∈ t.part.plantLink.transmitList ↔ (t.part.slot d).status = .waiting) ∧
      (s.part.plantLink.transmission = none → ∀ d,
        (d ∈ t.part.plantLink.transmitList ∨ (t.part.plantLink.transmission.map (·.dest)) = some d) ↔
          (t.part.slot d).status = .waiting) ∧
      (∀ m, (s.part.binding m).bypass = false ∨ s.part.allocator.bypassPermitted = false ∨ permitted = true →
        let r := s.part.mach m
        let base : MachineRecord := { r with
          loadPending := false, correcting := false, controllerTripHanded := false, demand := if kept then r.demand else .none }
        let takenUp (k : Option OrderKind) (r' : MachineRecord) : Prop :=
          t.part.mach m = { r' with phase := ⟨k, 0, false⟩, setpoint := 0 } ∧
          t.part.slot (.machine m) = match k with
            | some k => placed (.machine m) (.machine k 0)
            | none => cleared (.machine m)
        let moved (old new : MachineState) (c : Cause) (r' : MachineRecord) : MachineRecord :=
          { r' with state := new, last := ⟨old, new, c, s.part.stamp⟩ }
        let stopped : Prop := takenUp (some .stop) (moved .idle .stopping .mode { base with lingerTimer := none })
        let firstLoad : Prop := r.phase.kind = some .load
        (r.state = .stopped ∨ (r.state = .starting ∧ r.startFailed = true) → takenUp none base) ∧
        (r.state = .starting → r.startFailed = false →
          takenUp (some .start) { base with startTimer := some (1000 * s.part.startLimit m) }) ∧
        (r.state = .idle → (kept → takenUp none base) ∧ (¬ kept → stopped)) ∧
        (r.state = .loading → firstLoad → takenUp (some .unload) (moved .loading .unloading .restart base)) ∧
        (r.state = .loading → ¬ firstLoad → (kept → takenUp none (moved .loading .idle .restart base)) ∧ (¬ kept → stopped)) ∧
        (r.state = .loaded → takenUp (some .unload) (moved .loaded .unloading .restart base)) ∧
        (r.state = .unloading → takenUp (some .unload) base) ∧ (r.state = .stopping → takenUp (some .stop) base) ∧
        (r.state = .tripped ∨ r.state = .lockedOut → takenUp (some .trip) base)) ∧
      (permitted = s.part.allocator.bypassPermitted → (∀ m, (s.part.mach m).state ≠ .loading) →
        t.part.allocator.tree = s.part.allocator.tree ∧ t.part.dispatch.dwell = s.part.dispatch.dwell ∧
        (∀ m, t.part.binding m = { s.part.binding m with
          target := none, cause := none, timer := none
          bypass := (s.part.binding m).bypass && decide ((s.part.mach m).state ≠ .loaded) }) ∧
        (∀ m v, (s.part.binding m).target = some v → (t.part.slot (.vessel v)).order = some (.route .none)) ∧
        (∀ v, (∀ m, (s.part.binding m).target ≠ some v) → t.part.slot (.vessel v) = cleared (.vessel v)) ∧
        t.part.station.notices =
          (allMachines.filter fun m => (s.part.mach m).state = .loaded).map (s.part.moveNotice · .loaded .unloading .restart) ++
          (if kept then [] else
            (allMachines.filter fun m => (s.part.mach m).state = .idle).map (s.part.moveNotice · .idle .stopping .mode)))

/-- R192, R193, R109 and the power-on columns of R2, R25, R54, R81, R112, R135, R154, R162, R184: a power-on reset. A store in
flight at the loss of power leaves its section bad, and the part starts UNCONFIGURED (R193); a save in flight leaves its slot bad,
and the other slot is taken where it is good (R109). The CRCs are those of the model's layouts of a section's and a slot's bytes
(log entry 8). -/
def Obligations.PowerOnResult : Prop :=
  ∀ s : State, ∃ t : State, exec .powerOnReset s = .next t ∧ t.pending = s.pending ∧
    t.part.schedule = .powerOn ∧ t.part.inventory = .powerOn ∧ t.part.allocator = .powerOn ∧ t.part.dispatch = .powerOn ∧
    t.part.protection = .powerOn ∧ t.part.time = .powerOn ∧ t.part.station = .powerOn ∧
    (∀ m, (t.part.mach m) = .powerOn (t.part.mach m).counters) ∧
    (∀ o ∈ t.part.lines.outputs, o.asserted = false) ∧ (∀ i ∈ t.part.lines.inputs, i.qualified = none) ∧
    t.part.plantLink.queue = [] ∧ t.part.plantLink.transmission = none ∧
    (∀ d, t.part.slot d = .powerOn) ∧ (∀ e ∈ t.part.plantLink.sources, e.state = .lost ∧ e.held = none) ∧
    t.part.mode = (if t.part.allGood = true then .standby else .unconfigured) ∧
    (∀ id, (∀ st, s.part.constants.store = some st → st.sect ≠ id) →
      (t.part.constants.sections.get id).values = (s.part.constants.sections.get id).values ∧
      ((t.part.constants.sections.get id).good = true ↔
        (s.part.constants.sections.get id).values.length = sectionSize id ∧
        (s.part.constants.sections.get id).crc = sectionCrc (s.part.constants.sections.get id).values)) ∧
    (∀ st, s.part.constants.store = some st →
      (t.part.constants.sections.get st.sect).good = false ∧ t.part.mode = .unconfigured ∧ t.part.constants.store = none) ∧
    t.part.sequencer.save = none ∧
    (∀ x, s.part.sequencer.save = some x →
      let cut := if x.slot then t.part.constants.slotB else t.part.constants.slotA
      let other := if x.slot then s.part.constants.slotA else s.part.constants.slotB
      cut.good = false ∧ (if x.slot then t.part.constants.slotA else t.part.constants.slotB) = other ∧
      (other.good = true → t.part.sequencer.restored = true ∧ ∀ m, (t.part.mach m).counters = other.counters.get m) ∧
      (other.good = false → t.part.sequencer.restored = false ∧ ∀ m, (t.part.mach m).counters = .zero)) ∧
    (s.part.sequencer.save = none →
      t.part.constants.slotA = s.part.constants.slotA ∧ t.part.constants.slotB = s.part.constants.slotB ∧
      (s.part.constants.slotA.good = false → s.part.constants.slotB.good = false →
        t.part.sequencer.restored = false ∧ ∀ m, (t.part.mach m).counters = .zero) ∧
      (s.part.constants.slotA.good = true → s.part.constants.slotB.good = false →
        t.part.sequencer.restored = true ∧ ∀ m, (t.part.mach m).counters = s.part.constants.slotA.counters.get m) ∧
      (s.part.constants.slotA.good = true → s.part.constants.slotB.good = true →
        s.part.constants.slotB.number < s.part.constants.slotA.number →
        t.part.sequencer.restored = true ∧ ∀ m, (t.part.mach m).counters = s.part.constants.slotA.counters.get m) ∧
      (s.part.constants.slotB.good = true →
        s.part.constants.slotA.good = false ∨ s.part.constants.slotA.number ≤ s.part.constants.slotB.number →
        t.part.sequencer.restored = true ∧ ∀ m, (t.part.mach m).counters = s.part.constants.slotB.counters.get m))

/-! ### Plant time -/

/-- R157, R158, R3: the first setting of plant time: the clock, the pages, the projection stored (its seconds are log entry 30) and
the notices. That one to the last instant of day 65,534 does not set end of range itself is the model's choice (log entry 49). -/
def Obligations.FirstSetTime : Prop :=
  ∀ (day second ms : Nat) (s : State), s.served → s.part.time.valid = false →
    day ≤ 65534 → second ≤ 86399 → ms ≤ 999 →
    ∃ t : State, exec (.setTime day second ms) s = .next t ∧ t.pending = s.pending ∧
      t.part.station.answer = some ⟨.ok, .timeSet .firstSet 0⟩ ∧
      t.part.time = { s.part.time with
        valid := true, day := day, second := second, ms := ms, nextCut := true
        lastStep := ⟨.firstSet, 0, some ⟨day, second, ms⟩⟩ } ∧
      t.part.schedule.day = some day ∧ t.part.schedule.windows = s.part.schedule.windows ∧
      (s.part.schedule.currentPage.length = 96 → s.part.schedule.nextPage.length = 96 → s.part.gateLead ≤ 16 →
        (∀ i, i < second / 900 → t.part.schedule.record i = { IntervalRecord.blank with status := .settled }) ∧
        t.part.schedule.record (second / 900) =
          { s.part.schedule.record (second / 900) with status := .active, committed := false } ∧
        (∀ i, second / 900 < i → i ≤ second / 900 + s.part.gateLead →
          t.part.schedule.record i = { s.part.schedule.record i with status := .dropped, committed := false }) ∧
        (∀ i, second / 900 + s.part.gateLead < i → t.part.schedule.record i = s.part.schedule.record i)) ∧
      t.part.schedule.staging = s.part.schedule.staging ∧
      (let result := t.part.project (second / 900) (900 - second % 900)
       let stamp : Option PlantTime := some ⟨day, second, ms⟩
       t.part.inventory = { s.part.inventory with stored := result } ∧
       t.part.station.notices = queueAfter s.part.station.notices
         ((if s.part.inventory.stored.pass = true ∧ result.pass = false then
           [⟨.shortfall, stamp, result.first, violationCode result.kind⟩] else []) ++
          [⟨.timeStepped, stamp, 0, (day : Nat)⟩])) ∧
      t.part.sequencer.machines = s.part.sequencer.machines ∧ t.part.allocator = s.part.allocator ∧
      t.part.dispatch = s.part.dispatch ∧ t.part.protection = s.part.protection ∧ t.part.constants = s.part.constants

/-- R157 to R159: what SetTime refuses once time is valid, and its later steps. A forward step within its interval changes the
clock, the last step and the notice alone. One that crosses n boundaries settles n intervals, the first four with the mark CUT and
the rest with metered net export absent, and moves the schedule on: the records passed, the active one, gate closure (R6), and at a
rollover the pages, windows and staging (R7, R21, R17); the last boundary's projection stands stored (R44; its seconds are log entry
30), and the notices carry the new plant time (R160). A clearing forward step, and a backward step in STANDBY, settle nothing, clear
the schedule and establish its pages; that a backward step does so also where it crosses no boundary and stays within its day is the
model's choice (log entry 43), and so is that one to the last instant of day 65,534 does not set end of range itself (log entry 49).
-/
def Obligations.SetTimeSteps : Prop :=
  ∀ (day second ms : Nat) (s : State), s.served →
    (day > 65534 ∨ second > 86399 ∨ ms > 999 →
      exec (.setTime day second ms) s = .next (s.answered ⟨.argRange, .none⟩ s.part)) ∧
    (day ≤ 65534 → second ≤ 86399 → ms ≤ 999 → s.part.time.valid = true →
      let size := clampInt (-2147483648) 2147483647
        (((instantOf day second ms : Int) - (s.part.time.instant : Int)).tdiv 1000)
      let clock (kind : StepKind) : TimeBase := { s.part.time with
        valid := true, day := day, second := second, ms := ms, lastStep := ⟨kind, size, some ⟨day, second, ms⟩⟩ }
      (instantOf day second ms < s.part.time.instant → s.part.mode ≠ .standby →
        exec (.setTime day second ms) s = .next (s.answered ⟨.timeBackward, .none⟩ s.part)) ∧
      (s.part.time.instant ≤ instantOf day second ms → day ≤ s.part.time.day + 1 →
        instantOf day second ms / 900000 = s.part.time.instant / 900000 →
        exec (.setTime day second ms) s = .next (s.answered ⟨.ok, .timeSet .forward 0⟩ (Ck4.post
          { s.part with time := clock .forward } .timeStepped 1 size))) ∧
      (∀ n, 1 ≤ n → instantOf day second ms / 900000 = s.part.time.instant / 900000 + n → day ≤ s.part.time.day + 1 →
        s.part.time.second ≤ 86399 → s.part.time.ms ≤ 999 → s.part.dispatch.number ≤ 65535 →
        s.part.schedule.currentPage.length = 96 → s.part.schedule.nextPage.length = 96 →
        let base := s.part.time.second / 900
        ∃ t : State, exec (.setTime day second ms) s = .next t ∧ t.pending = s.pending ∧
          t.part.station.answer = some ⟨.ok, .timeSet .forward n⟩ ∧
          t.part.time = { clock .forward with nextCut := !(second % 900 == 0 && ms == 0) } ∧
          t.part.dispatch.number = (s.part.dispatch.number + n) % 65536 ∧
          t.part.dispatch.cycles = 0 ∧ t.part.dispatch.reserveSum = 0 ∧ t.part.dispatch.shortfallSum = 0 ∧
          (∀ i, 1 ≤ i → i ≤ n → n < i + 16 → ∃ r, t.part.dispatch.log.reverse[n - i]? = some r ∧
            r.interval = (base + i - 1) % 96 ∧ r.number = (s.part.dispatch.number + (i - 1)) % 65536 ∧ r.cutShort = true ∧
            (i = 1 → r = s.part.dispatch.settlement (s.part.schedule.day.getD 0) base (s.part.schedule.record base).committed
              (s.part.dispatchResolution base).power .cut) ∧
            (2 ≤ i → i ≤ 4 → (r.metered = none ∨ r.metered = some 0) ∧ (r.metered = none ↔ s.part.dispatch.meter = .lost ∨
              s.part.dispatch.exportKwh = none ∨ s.part.dispatch.importKwh = none)) ∧
            (5 ≤ i → r.metered = none) ∧
            (2 ≤ i → r.scheduled = 25 * r.power ∧ r.reserve = 0 ∧ r.shortfall = 0 ∧
              r.day = (match s.part.schedule.day with | some d => d + (base + i - 1) / 96 | none => 0) ∧
              (base + n < 96 → r.committed = (t.part.schedule.record (base + i - 1)).committed ∧
                r.power = (t.part.dispatchResolution (base + i - 1)).power))) ∧
          t.part.dispatch = { s.part.dispatch with
            number := t.part.dispatch.number, log := t.part.dispatch.log, cycles := 0, reserveSum := 0, shortfallSum := 0
            startExport := s.part.dispatch.exportKwh, startImport := s.part.dispatch.importKwh
            meterLost := decide (s.part.dispatch.meter = .lost ∨ s.part.dispatch.exportKwh = none ∨
              s.part.dispatch.importKwh = none) } ∧
          t.part.schedule.day = s.part.schedule.day.map (· + (base + n) / 96) ∧
          (t.part.schedule.record ((base + n) % 96)).status = .active ∧
          (base + n < 96 → ∀ j, base ≤ j → j < base + n → (t.part.schedule.record j).status = .settled) ∧
          (1 ≤ s.part.gateLead → s.part.gateLead ≤ 16 →
            let was (j : Nat) : IntervalRecord := if j < 192 then s.part.schedule.record j else .blank
            let fixed (r : IntervalRecord) : IntervalRecord := match r.status with
              | .firm => { r with status := .locked, committed := true }
              | .empty | .indicative => { r with status := .dropped }
              | _ => r
            ∀ i, i < 192 →
              let j := if base + n < 96 then i else i + 96
              let r := if base + 1 < j ∧ j ≤ base + n + s.part.gateLead then fixed (was j) else was j
              t.part.schedule.record i = (if base ≤ j ∧ j < base + n then { r with status := .settled }
                else if j = base + n then { r with status := .active } else r)) ∧
          (base + n < 96 → t.part.schedule.windows = s.part.schedule.windows ∧
            t.part.schedule.staging = s.part.schedule.staging) ∧
          (96 ≤ base + n → t.part.schedule.windows = s.part.schedule.windows.map (fun w =>
              if w.inUse = false then w else if w.last < 96 then .free
              else { w with first := w.first - 96, last := w.last - 96 }) ∧
            (s.part.schedule.staging = none → t.part.schedule.staging = none) ∧
            (∀ g, s.part.schedule.staging = some g →
              (s.part.schedule.day = some g.day → t.part.schedule.staging = none) ∧
              (s.part.schedule.day ≠ some g.day → t.part.schedule.staging = some g))) ∧
          t.part.inventory = { s.part.inventory with stored := t.part.project ((base + n) % 96) 900 } ∧
          (let stamp : Option PlantTime := some ⟨day, second, ms⟩
           ∃ rest : List Notice,
             t.part.station.notices = queueAfter s.part.station.notices (⟨.timeStepped, stamp, 1, size⟩ :: rest) ∧
             rest.filter (fun x => x.kind = .intervalSettled) = (List.range n).map (fun i => ⟨.intervalSettled, stamp, (base + i) % 96,
               (65536 * ((s.part.dispatch.number + i) % 65536) +
                 (match s.part.schedule.day with | some d => d + (base + i) / 96 | none => 0) % 65536 : Nat)⟩) ∧
             rest.filter (fun x => x.kind = .stagingDiscarded) = (match s.part.schedule.staging with
               | some g => if 96 ≤ base + n ∧ s.part.schedule.day = some g.day then [⟨.stagingDiscarded, stamp, 2, (g.day : Nat)⟩] else []
               | none => []) ∧
             ∀ x ∈ rest, x.kind = .intervalSettled ∨ x.kind = .stagingDiscarded ∨ (x.kind = .shortfall ∧ x.time = stamp)) ∧
          ((∃ i, 1 ≤ i ∧ i ≤ n ∧ (base + i) % 4 = 0) →
            t.part.sequencer.saveAsked = true ∨ t.part.sequencer.save.isSome = true) ∧
          t.part.sequencer.machines = s.part.sequencer.machines ∧ t.part.allocator = s.part.allocator ∧
          t.part.protection = s.part.protection ∧ t.part.constants = s.part.constants) ∧
      (∀ kind, (kind = .forwardClearing ∧ s.part.time.instant ≤ instantOf day second ms ∧ s.part.time.day + 1 < day) ∨
          (kind = .backward ∧ instantOf day second ms < s.part.time.instant ∧ s.part.mode = .standby) →
        s.part.gateLead ≤ 16 →
        ∃ t : State, exec (.setTime day second ms) s = .next t ∧ t.pending = s.pending ∧
          t.part.station.answer = some ⟨.ok, .timeSet kind 0⟩ ∧
          t.part.time = { clock kind with
            nextCut := true, endOfRange := if kind = .backward then false else s.part.time.endOfRange } ∧
          t.part.schedule.day = some day ∧ t.part.schedule.windows = List.replicate 16 Window.free ∧
          t.part.schedule.staging = none ∧
          (∀ i, i < 192 → t.part.schedule.record i = { IntervalRecord.blank with status :=
            if i < second / 900 then .settled else if i = second / 900 then .active
            else if i ≤ second / 900 + s.part.gateLead then .dropped else .empty }) ∧
          (let result := t.part.project (second / 900) (900 - second % 900)
           let stamp : Option PlantTime := some ⟨day, second, ms⟩
           t.part.inventory = { s.part.inventory with stored := result } ∧
           t.part.station.notices = queueAfter s.part.station.notices
             ((match s.part.schedule.staging with
                | some g => [⟨.stagingDiscarded, stamp, 3, (g.day : Nat)⟩]
                | none => []) ++
              (if s.part.inventory.stored.pass = true ∧ result.pass = false then
                [⟨.shortfall, stamp, result.first, violationCode result.kind⟩] else []) ++
              [⟨.timeStepped, stamp, if kind = .backward then 3 else 2, size⟩])) ∧
          t.part.sequencer.machines = s.part.sequencer.machines ∧ t.part.allocator = s.part.allocator ∧
          t.part.dispatch = s.part.dispatch ∧ t.part.protection = s.part.protection ∧ t.part.constants = s.part.constants))

/-- R5, R6, R7, R17, R21, R44, R109, R156, R130 to R132, and R155 for the end of the range. The clock reaches its next boundary,
within a day or at the rollover, where the pages and windows move by one day first: the interval in progress becomes SETTLED and
settles, the next becomes ACTIVE, gate closure fixes the intervals within the gate lead, the boundary projection is stored, and at a
whole plant hour a save is asked for. The two events move the clock to the instant they name, and the elapsed count and every timer
move on with it (log entry 4); neither does anything where plant time does not run, the boundary in the last interval of day 65534
and the end of the range outside it (log entry 29). -/
def Obligations.BoundaryAndEndOfRange : Prop :=
  (∀ (p : Ck4) (t : TimeBase), let q := p.runTo t; let d := t.instant - p.time.instant
    q.time = { t with elapsed := p.time.elapsed + d } ∧
    q.dispatch = { p.dispatch with
      cycleTimer := p.dispatch.cycleTimer - d
      dwell := p.dispatch.dwell.map fun x => { x with remaining := x.remaining - d } } ∧
    q.sequencer = { p.sequencer with machines := q.sequencer.machines, counterTimer := p.sequencer.counterTimer - d } ∧
    (∀ m, q.mach m = { p.mach m with
      startTimer := (p.mach m).startTimer.map (· - d), lingerTimer := (p.mach m).lingerTimer.map (· - d) }) ∧
    q.allocator = { p.allocator with bindings := q.allocator.bindings } ∧
    (∀ m, q.binding m = { p.binding m with timer := (p.binding m).timer.map (· - d) }) ∧
    (∀ x, q.slot x = { p.slot x with
      confirmTimer := (p.slot x).confirmTimer.map (· - d), repeatTimer := (p.slot x).repeatTimer.map (· - d) }) ∧
    q.schedule = { p.schedule with staging := p.schedule.staging.map fun g => { g with timer := g.timer - d } } ∧
    q.inventory = p.inventory ∧ q.protection = p.protection ∧ q.lines = p.lines ∧ q.station = p.station ∧
    q.constants = p.constants) ∧
  (∀ (d : DispatchUnit) (day interval : Nat) (committed : Bool) (power : Int) (mark : ClosingMark),
    let r := d.settlement day interval committed power mark
    r.number = d.number ∧ r.day = day ∧ r.interval = interval ∧ r.committed = committed ∧ r.power = power ∧
    r.scheduled = 25 * power ∧ r.reserve = d.reserveSum.tdiv 36 ∧ r.shortfall = d.shortfallSum.tdiv 3600 ∧
    (r.cutShort = true ↔ mark ≠ .normal) ∧
    r.metered = (match d.exportKwh, d.importKwh, d.startExport, d.startImport with
      | some x, some y, some x0, some y0 => if d.meterLost = true ∨ mark = .skipped then none
        else some (((x + 4294967296 - x0) % 4294967296 : Nat) - ((y + 4294967296 - y0) % 4294967296 : Nat) : Int)
      | _, _, _, _ => none) ∧
    r.deviation = r.metered.map (fun z => z - (25 * power + d.reserveSum.tdiv 36))) ∧
  ∀ s : State,
    (s.part.time.valid = false ∨ s.part.time.endOfRange = true →
      exec .intervalBoundary s = .next (s.ended s.part) ∧ exec .endOfRange s = .next (s.ended s.part)) ∧
    (s.part.time.day ≠ 65534 ∨ s.part.time.second / 900 ≠ 95 → exec .endOfRange s = .next (s.ended s.part)) ∧
    (s.part.time.valid = true → s.part.time.endOfRange = false →
      s.part.time.day = 65534 → s.part.time.second / 900 = 95 →
      exec .intervalBoundary s = .next (s.ended s.part) ∧
      exec .endOfRange s = .next (s.ended (Ck4.post
        (s.part.runTo { s.part.time with second := 86399, ms := 999, endOfRange := true }) .timeStepped 4 0))) ∧
    (s.part.time.valid = true → s.part.time.endOfRange = false → s.part.time.second ≤ 86399 →
      s.part.time.day < 65534 ∨ s.part.time.second / 900 < 95 →
      s.part.schedule.currentPage.length = 96 → s.part.schedule.nextPage.length = 96 →
      let k := s.part.time.second / 900
      let next := (k + 1) % 96
      let reached : TimeBase := if k < 95 then { s.part.time with second := 900 * (k + 1), ms := 0 }
        else { s.part.time with day := s.part.time.day + 1, second := 0, ms := 0 }
      let moved := s.part.runTo reached
      let day := s.part.schedule.day.getD 0
      let mark : ClosingMark := if s.part.time.nextCut then .cut else .normal
      let settled := s.part.dispatch.settlement day k (s.part.schedule.record k).committed (s.part.dispatchResolution k).power mark
      let was (j : Nat) : IntervalRecord :=
        if k < 95 then s.part.schedule.record j else if j < 96 then s.part.schedule.record (96 + j) else .blank
      let fixed (r : IntervalRecord) : IntervalRecord := match r.status with
        | .firm => { r with status := .locked, committed := true }
        | .empty | .indicative => { r with status := .dropped }
        | _ => r
      let stamp : Option PlantTime := some ⟨reached.day, reached.second, reached.ms⟩
      ∃ t : State, exec .intervalBoundary s = .next t ∧ t.pending = s.pending ∧
        t.part.time = { moved.time with nextCut := false } ∧
        (∀ j, j < 192 → t.part.schedule.record j =
          (if j = next then { was j with status := .active }
           else if k < 95 ∧ j = k then { was j with status := .settled }
           else if next < j ∧ j ≤ next + s.part.gateLead then fixed (was j) else was j)) ∧
        t.part.schedule.currentPage.length = 96 ∧ t.part.schedule.nextPage.length = 96 ∧
        (k < 95 → t.part.schedule.day = s.part.schedule.day ∧ t.part.schedule.windows = s.part.schedule.windows ∧
          t.part.schedule.staging = moved.schedule.staging) ∧
        (k = 95 → t.part.schedule.day = s.part.schedule.day.map (· + 1) ∧
          t.part.schedule.windows = s.part.schedule.windows.map (fun w =>
            if w.inUse = false then w else if w.last < 96 then .free
            else { w with first := w.first - 96, last := w.last - 96 }) ∧
          (s.part.schedule.staging = none → t.part.schedule.staging = none) ∧
          (∀ g, s.part.schedule.staging = some g →
            (s.part.schedule.day = some g.day → t.part.schedule.staging = none) ∧
            (s.part.schedule.day ≠ some g.day → t.part.schedule.staging = moved.schedule.staging))) ∧
        t.part.dispatch = { moved.dispatch with
          number := if s.part.dispatch.number ≥ 65535 then 0 else s.part.dispatch.number + 1
          log := (if s.part.dispatch.log.length < 16 then s.part.dispatch.log else s.part.dispatch.log.drop 1) ++ [settled]
          cycles := 0, reserveSum := 0, shortfallSum := 0
          startExport := s.part.dispatch.exportKwh, startImport := s.part.dispatch.importKwh
          meterLost := decide (s.part.dispatch.meter = .lost ∨ s.part.dispatch.exportKwh = none ∨
            s.part.dispatch.importKwh = none) } ∧
        t.part.inventory = { s.part.inventory with stored := t.part.project next 900 } ∧
        (next % 4 = 0 → t.part.sequencer.saveAsked = true ∨ t.part.sequencer.save.isSome = true) ∧
        t.part.sequencer.machines = moved.sequencer.machines ∧ t.part.allocator = moved.allocator ∧
        t.part.protection = s.part.protection ∧ t.part.constants = s.part.constants ∧
        (s.part.station.notices.length ≤ 28 → (∀ n ∈ s.part.station.notices, n.kind ≠ .overflow) →
          let discarded : List Notice := match s.part.schedule.staging with
            | some g => if k = 95 ∧ s.part.schedule.day = some g.day then [⟨.stagingDiscarded, stamp, 2, (g.day : Nat)⟩] else []
            | none => []
          let result := t.part.inventory.stored
          t.part.station.notices = s.part.station.notices ++
            [⟨.intervalSettled, stamp, k, (65536 * s.part.dispatch.number + day % 65536 : Nat)⟩] ++ discarded ++
            (if s.part.inventory.stored.pass = true ∧ result.pass = false then
              [⟨.shortfall, stamp, result.first, violationCode result.kind⟩] else [])))

/-! ### Schedule -/

/-- R10, R11, R12, R4: WriteIntervals once its time, day, range and record checks pass. R9 (with the ranges of log entry 14): which
offered records pass. R10, R2: what a write stores, an EMPTY record without a trade reference. R11: when the firm content of some
interval changes. -/
def Obligations.WriteIntervalsResult : Prop :=
  (∀ (day first base : Nat) (os : List OfferedRecord) (s : State), s.served →
    (s.part.time.valid = false →
      exec (.writeIntervals day first os.length os) s = .next (s.answered ⟨.timeInvalid, .none⟩ s.part)) ∧
    (s.part.time.valid = true → s.part.schedule.pageBase day = none →
      exec (.writeIntervals day first os.length os) s = .next (s.answered ⟨.argRange, .none⟩ s.part)) ∧
    (s.part.time.valid = true → s.part.schedule.pageBase day = some base →
      (os.length = 0 ∨ os.length > 16 ∨ first + os.length > 96 ∨ s.part.offersValid os = false →
        exec (.writeIntervals day first os.length os) s = .next (s.answered ⟨.argRange, .none⟩ s.part)) ∧
      (1 ≤ os.length → os.length ≤ 16 → first + os.length ≤ 96 → s.part.offersValid os = true →
        (∀ i, base + first ≤ i → i < base + first + os.length →
          (s.part.schedule.record i).status.writable = false →
          (∀ j, base + first ≤ j → j < i → (s.part.schedule.record j).status.writable = true) →
          exec (.writeIntervals day first os.length os) s = .next (s.answered ⟨.gateClosed, .interval i⟩ s.part)) ∧
        ((∀ i, base + first ≤ i → i < base + first + os.length → (s.part.schedule.record i).status.writable = true) →
          let proposed := s.part.schedule.write (base + first) os
          (firmChanges s.part.schedule proposed (base + first) os.length = false →
            exec (.writeIntervals day first os.length os) s =
              .next (s.answered ⟨.ok, .none⟩ { s.part with schedule := proposed })) ∧
          (firmChanges s.part.schedule proposed (base + first) os.length = true →
            ((s.part.admission proposed).1 = false →
              exec (.writeIntervals day first os.length os) s = .next (s.answered
                ⟨.admission, .violation (s.part.admission proposed).2.first (s.part.admission proposed).2.kind⟩ s.part)) ∧
            ((s.part.admission proposed).1 = true →
              exec (.writeIntervals day first os.length os) s = .next (s.answered ⟨.ok, .none⟩
                (Ck4.storeProjection { s.part with schedule := proposed } (s.part.admission proposed).2))))))) ∧
    (∀ n, n ≠ os.length → exec (.writeIntervals day first n os) s = .next (s.answered ⟨.badLength, .none⟩ s.part))) ∧
  (∀ (p : Ck4) (os : List OfferedRecord), p.offersValid os = true ↔ ∀ o ∈ os,
    (o.status = 0 ∧ o.power = 0 ∧ o.up = 0 ∧ o.down = 0) ∨
    ((o.status = 1 ∨ o.status = 2) ∧ -32767 ≤ o.power ∧ o.power ≤ 32767 ∧ o.up ≤ 32767 ∧ o.down ≤ 32767 ∧
      (0 < o.power → o.power + o.up ≤ (p.rating .e1 + p.rating .e2 : Nat) ∧ (o.down : Int) ≤ o.power) ∧
      (o.power < 0 → (o.up : Int) ≤ -o.power ∧ -o.power + o.down ≤ (p.rating .c1 + p.rating .c2 + p.rating .c3 : Nat)) ∧
      (o.power = 0 → o.up = 0 ∧ o.down = 0))) ∧
  (∀ (s : Schedule) (i : Nat) (os : List OfferedRecord), s.currentPage.length = 96 → s.nextPage.length = 96 →
    i + os.length ≤ 192 → (∀ o ∈ os, o.status ≤ 2) →
    let w := s.write i os
    w = { s with currentPage := w.currentPage, nextPage := w.nextPage } ∧
    w.currentPage.length = 96 ∧ w.nextPage.length = 96 ∧
    ∀ j, j < 192 →
      (j < i ∨ i + os.length ≤ j → w.record j = s.record j) ∧
      (∀ o, i ≤ j → os[j - i]? = some o → w.record j =
        { power := o.power, up := o.up, down := o.down, committed := false
          status := if o.status = 0 then .empty else if o.status = 1 then .indicative else .firm
          reference := if o.status = 0 then none else o.reference })) ∧
  (∀ (before after : Schedule) (i n : Nat), firmChanges before after i n = true ↔ ∃ j, i ≤ j ∧ j < i + n ∧
    ¬ (((before.record j).status = .firm ↔ (after.record j).status = .firm) ∧
      ((before.record j).status = .firm → (after.record j).power = (before.record j).power ∧
        (after.record j).up = (before.record j).up ∧ (after.record j).down = (before.record j).down)))

/-- R12: a change is admitted where the proposal passes, or where the baseline fails and the proposal's first violating interval is
not earlier. R45 to R51: a projection in a seeded state: the mass, the heat and the room before each interval from the active one
on, what the checks after each interval make of the result, and the least and the greatest of those masses (0 to 2^48 - 1). R51: an
unseeded inventory fails at the active interval. In a seeded state with the ENERGY section's CRC bad the result is that of a
power-on reset (R192; log entry 9). -/
def Obligations.ProjectionAndAdmission : Prop :=
  (∀ (p : Ck4) (proposed : Schedule) (a : Nat), p.active = some a →
    let baseline := p.project a p.remaining
    let proposal := Ck4.project { p with schedule := proposed } a p.remaining
    (p.admission proposed).2 = proposal ∧ ((p.admission proposed).1 = true ↔
      proposal.pass = true ∨ (baseline.pass = false ∧ baseline.first ≤ proposal.first))) ∧
  (∀ (p : Ck4) (a seconds : Nat), p.inventory.state = .unseeded → p.project a seconds = ⟨false, a, .notSeeded, 0, 0, 0⟩) ∧
  (∀ (p : Ck4) (a seconds : Nat), p.inventory.state ≠ .unseeded → p.constants.sections.energy.good = false →
    p.project a seconds = ⟨false, 0, .notSeeded, 0, 0, 0⟩) ∧
  (∀ (p : Ck4) (a seconds : Nat), p.inventory.state ≠ .unseeded → p.constants.sections.energy.good = true → a ≤ 191 →
    let result := p.project a seconds
    let up (x y : Nat) : Nat := (x + y - 1) / y
    let power (j : Nat) : Int := (p.projectedResolution a j).power
    let band (j : Nat) : Nat := (p.projectedResolution a j).up
    let energy (j : Nat) : Nat := up ((power j).natAbs * 25 * (if j = a then seconds else 900)) 900
    let out (j : Nat) : Nat := up (energy j * 10000) p.yDis
    let into (j : Nat) : Nat := up (energy j * 10000) p.yChg
    let need (j : Nat) : Nat := up (out j * p.hDis) 10000
    let made (j : Nat) : Nat := up (into j * p.hChg) 10000
    ∃ (mass : Nat → Nat) (heat room : Nat → Int),
      mass a = p.inventory.m ∧ heat a = p.hFree ∧ room a = p.hRoom ∧
      (∀ j, a ≤ j → j ≤ 191 →
        (power j = 0 → mass (j + 1) = mass j ∧ heat (j + 1) = heat j ∧ room (j + 1) = room j) ∧
        (0 < power j → mass (j + 1) = mass j - out j ∧ heat (j + 1) = heat j - need j ∧ room (j + 1) = room j + need j) ∧
        (power j < 0 → mass (j + 1) = min 281474976710655 (mass j + into j) ∧
          (made j ≤ room j → heat (j + 1) = heat j + made j ∧ room (j + 1) = room j - made j) ∧
          (room j < made j → heat (j + 1) = heat j + room j ∧ room (j + 1) = 0))) ∧
      let full (j : Nat) : Prop := power j < 0 ∧ room j < made j ∧ p.allocator.bypassPermitted = false
      let fast (j : Nat) : Prop := (0 < power j ∧ p.inventory.mStep < out j) ∨ (power j < 0 ∧ p.inventory.mStep < into j)
      let unheld (j : Nat) : Prop := 0 < power j ∧ 0 < band j ∧
        p.hHeld < up (up (band j * 25 * 10000) p.yDis * p.hDis) 10000
      let low (j : Nat) : Prop := mass (j + 1) < p.inventory.mMin
      let high (j : Nat) : Prop := p.inventory.mMax < mass (j + 1)
      let cold (j : Nat) : Prop := heat (j + 1) < 0
      let fails (j : Nat) : Prop := full j ∨ low j ∨ high j ∨ cold j ∨ fast j ∨ unheld j
      let kind (j : Nat) (k : Violation) : Prop :=
        (full j ∧ k = .heatRoom) ∨ (¬ full j ∧ ((low j ∧ k = .massLow) ∨ (¬ low j ∧ ((high j ∧ k = .massHigh) ∨
          (¬ high j ∧ ((cold j ∧ k = .heatLow) ∨ (¬ cold j ∧ ((fast j ∧ k = .rate) ∨ (¬ fast j ∧ k = .heldHeat)))))))))
      (result.pass = true ↔ ∀ j, a ≤ j → j ≤ 191 → ¬ fails j) ∧
      (result.pass = true → result.first = 0 ∧ result.kind = .none) ∧
      (result.pass = false → a ≤ result.first ∧ result.first ≤ 191 ∧ fails result.first ∧ kind result.first result.kind ∧
        ∀ j, a ≤ j → j < result.first → ¬ fails j) ∧
      result.horizonMass = mass 192 ∧
      (∀ j, a ≤ j → j ≤ 191 → result.minMass ≤ mass (j + 1) ∧ mass (j + 1) ≤ result.maxMass) ∧
      (∃ j, a ≤ j ∧ j ≤ 191 ∧ result.minMass = min 281474976710655 (mass (j + 1))) ∧
      ∃ j, a ≤ j ∧ j ≤ 191 ∧ result.maxMass = mass (j + 1))

/-- R13 BeginDayLoad, R16 CancelDayLoad and the discard timer, which does nothing while staging is closed (log entry 29). R14
StageIntervals and R15 CommitDayLoad: a commit whose checks all pass closes the staging page; one that fails restarts its timer.
That the discard acts whatever its timer still shows is the model's choice (log entry 3). R14, R15: the record that a staging write
leaves, when a live record agrees with a staged one, and what a commit makes of each live record. -/
def Obligations.StagingResults : Prop :=
  (∀ (day : Nat) (s : State), s.served →
      (s.part.time.valid = false → exec (.beginDayLoad day) s = .next (s.answered ⟨.timeInvalid, .none⟩ s.part)) ∧
      (s.part.time.valid = true → s.part.schedule.day ≠ some day → s.part.schedule.day.map (· + 1) ≠ some day →
        exec (.beginDayLoad day) s = .next (s.answered ⟨.argRange, .none⟩ s.part)) ∧
      (s.part.time.valid = true → s.part.schedule.staging.isSome = true →
        s.part.schedule.day = some day ∨ s.part.schedule.day.map (· + 1) = some day →
        exec (.beginDayLoad day) s = .next (s.answered ⟨.stagingState, .none⟩ s.part)) ∧
      (s.part.time.valid = true → s.part.schedule.staging = none → s.part.schedule.day = some day →
        exec (.beginDayLoad day) s = .next (s.answered ⟨.ok, .none⟩ { s.part with schedule := { s.part.schedule with
          staging := some ⟨day, s.part.schedule.currentPage, 60000⟩ } })) ∧
      (s.part.time.valid = true → s.part.schedule.staging = none → s.part.schedule.day.map (· + 1) = some day →
        exec (.beginDayLoad day) s = .next (s.answered ⟨.ok, .none⟩ { s.part with schedule := { s.part.schedule with
          staging := some ⟨day, s.part.schedule.nextPage, 60000⟩ } }))) ∧
  (∀ s : State,
      (s.served → s.part.schedule.staging = none →
        exec .cancelDayLoad s = .next (s.answered ⟨.stagingState, .none⟩ s.part)) ∧
      (s.served → s.part.schedule.staging.isSome = true →
        exec .cancelDayLoad s = .next (s.answered ⟨.ok, .none⟩
          { s.part with schedule := { s.part.schedule with staging := none } })) ∧
      (s.part.schedule.staging = none → exec .stagingDiscardTimeout s = .next (s.ended s.part)) ∧
      (∀ g, s.part.schedule.staging = some g →
        exec .stagingDiscardTimeout s = .next (s.ended (Ck4.post
          { s.part with schedule := { s.part.schedule with staging := none } } .stagingDiscarded 1 (g.day : Nat))))) ∧
  (∀ s : State, s.served →
      (s.part.schedule.staging = none →
        exec .commitDayLoad s = .next (s.answered ⟨.stagingState, .none⟩ s.part) ∧
        ∀ first os, exec (.stageIntervals first os.length os) s = .next (s.answered ⟨.stagingState, .none⟩ s.part)) ∧
      (∀ g, s.part.schedule.staging = some g →
        let restarted := s.answered (p := s.part.setStaging (some { g with timer := 60000 }))
        (∀ first (os : List OfferedRecord),
          os.length = 0 ∨ os.length > 16 ∨ first + os.length > 96 ∨ s.part.offersValid os = false →
          exec (.stageIntervals first os.length os) s = .next (restarted ⟨.argRange, .none⟩)) ∧
        (∀ first (os : List OfferedRecord), 1 ≤ os.length → os.length ≤ 16 → first + os.length ≤ 96 →
          s.part.offersValid os = true →
          exec (.stageIntervals first os.length os) s = .next (s.answered ⟨.ok, .none⟩
            (s.part.setStaging (some ⟨g.day, writePage g.records first os, 60000⟩)))) ∧
        (∀ base, s.part.schedule.pageBase g.day = some base →
          (∀ i, i < 96 → gateAgrees (s.part.schedule.record (base + i)) (g.records.getD i .blank) = false →
            (∀ j, j < i → gateAgrees (s.part.schedule.record (base + j)) (g.records.getD j .blank) = true) →
            exec .commitDayLoad s = .next (restarted ⟨.gateClosed, .interval (base + i)⟩)) ∧
          ((∀ i, i < 96 → gateAgrees (s.part.schedule.record (base + i)) (g.records.getD i .blank) = true) →
            let proposed := s.part.schedule.commitFrom base g.records 0 96
            (firmChanges s.part.schedule proposed base 96 = false →
              exec .commitDayLoad s = .next (s.answered ⟨.ok, .none⟩
                { s.part with schedule := { proposed with staging := none } })) ∧
            (firmChanges s.part.schedule proposed base 96 = true → (s.part.admission proposed).1 = false →
              exec .commitDayLoad s = .next (restarted
                ⟨.admission, .violation (s.part.admission proposed).2.first (s.part.admission proposed).2.kind⟩)) ∧
            (firmChanges s.part.schedule proposed base 96 = true → (s.part.admission proposed).1 = true →
              exec .commitDayLoad s = .next (s.answered ⟨.ok, .none⟩
                ((Ck4.storeProjection { s.part with schedule := proposed }
                  (s.part.admission proposed).2).setStaging none))))))) ∧
  (∀ (page : List IntervalRecord) (i : Nat) (os : List OfferedRecord), page.length = 96 → i + os.length ≤ 96 →
    (∀ o ∈ os, o.status ≤ 2) →
    (writePage page i os).length = 96 ∧ ∀ j, j < 96 →
      (j < i ∨ i + os.length ≤ j → (writePage page i os).getD j .blank = page.getD j .blank) ∧
      (∀ o, i ≤ j → os[j - i]? = some o → (writePage page i os).getD j .blank =
        { power := o.power, up := o.up, down := o.down, committed := false
          status := if o.status = 0 then .empty else if o.status = 1 then .indicative else .firm
          reference := if o.status = 0 then none else o.reference })) ∧
  (∀ live staged : IntervalRecord, gateAgrees live staged = true ↔
    live.status = .empty ∨ live.status = .indicative ∨ live.status = .firm ∨
      (live.power = staged.power ∧ live.up = staged.up ∧ live.down = staged.down)) ∧
  (∀ (s : Schedule) (base : Nat) (records : List IntervalRecord), base = 0 ∨ base = 96 → s.currentPage.length = 96 →
    s.nextPage.length = 96 →
    let c := s.commitFrom base records 0 96
    c = { s with currentPage := c.currentPage, nextPage := c.nextPage } ∧
    ∀ j, j < 192 →
      (j < base ∨ base + 96 ≤ j → c.record j = s.record j) ∧
      (base ≤ j → j < base + 96 → c.record j = (match (s.record j).status with
        | .empty | .indicative | .firm => { records.getD (j - base) .blank with committed := false }
        | _ => s.record j)))

/-- R18, R19: SetWindow; a SETPOINT window asks for admission (its range is that of log entry 14); a BLOCK or CAP window is stored
with the result of a projection from the present moment, and one SHORTFALL follows where that fails. R20: ClearWindow and
ReadWindows; a cleared window is projected, and SHORTFALL is posted where a pass becomes a failure. R52: a projection stored. R51:
the codes of the violation kinds. -/
def Obligations.WindowRequestsResult : Prop :=
  (∀ (index kind mask first last : Nat) (value : Int) (s : State), s.served →
      (s.part.time.valid = false →
        exec (.setWindow index kind mask first last value) s = .next (s.answered ⟨.timeInvalid, .none⟩ s.part)) ∧
      (s.part.time.valid = true → kind > 3 ∨ index > 15 ∨ last > 191 ∨ first > last ∨ mask = 0 ∨ mask > 15 →
        exec (.setWindow index kind mask first last value) s = .next (s.answered ⟨.argRange, .none⟩ s.part)) ∧
      (s.part.time.valid = true → index ≤ 15 → first ≤ last → last ≤ 191 → 1 ≤ mask → mask ≤ 15 →
        let replaced (w : Window) : Schedule := { s.part.schedule with windows := s.part.schedule.windows.set index w }
        let stored (w : Window) : Ck4 :=
          let result := Ck4.project { s.part with schedule := replaced w } (s.part.time.second / 900)
            (900 - s.part.time.second % 900)
          let q : Ck4 := { s.part with
            schedule := replaced w, inventory := { s.part.inventory with stored := result } }
          if result.pass then q else q.post .shortfall result.first (violationCode result.kind)
        (kind = 0 → exec (.setWindow index kind mask first last value) s = .next (s.answered ⟨.ok, .none⟩
          (stored ⟨true, .block, first, last, mask, 0⟩))) ∧
        (kind = 1 →
          let proposed := replaced ⟨true, .setpoint, first, last, mask, value⟩
          let within : Prop := -32767 ≤ value ∧ value ≤ 32767 ∧ value ≤ (s.part.rating .e1 + s.part.rating .e2 : Nat) ∧
            -value ≤ (s.part.rating .c1 + s.part.rating .c2 + s.part.rating .c3 : Nat)
          (¬ within →
            exec (.setWindow index kind mask first last value) s = .next (s.answered ⟨.argRange, .none⟩ s.part)) ∧
          (within → (s.part.admission proposed).1 = true →
            exec (.setWindow index kind mask first last value) s = .next (s.answered ⟨.ok, .none⟩
              (Ck4.storeProjection { s.part with schedule := proposed } (s.part.admission proposed).2))) ∧
          (within → (s.part.admission proposed).1 = false →
            exec (.setWindow index kind mask first last value) s = .next (s.answered
              ⟨.admission, .violation (s.part.admission proposed).2.first (s.part.admission proposed).2.kind⟩ s.part))) ∧
        (kind = 2 → exec (.setWindow index kind mask first last value) s = .next (
          if 0 ≤ value ∧ value ≤ 32767 then s.answered ⟨.ok, .none⟩
            (stored ⟨true, .capDischarge, first, last, mask, value⟩)
          else s.answered ⟨.argRange, .none⟩ s.part)) ∧
        (kind = 3 → exec (.setWindow index kind mask first last value) s = .next (
          if 0 ≤ value ∧ value ≤ 32767 then s.answered ⟨.ok, .none⟩
            (stored ⟨true, .capCharge, first, last, mask, value⟩)
          else s.answered ⟨.argRange, .none⟩ s.part)))) ∧
  (∀ (index : Nat) (s : State),
      (s.part.mode = .unconfigured →
        exec (.clearWindow index) s = .next (s.answered ⟨.notConfigured, .none⟩ s.part)) ∧
      (s.served →
        (index > 15 → exec (.clearWindow index) s = .next (s.answered ⟨.argRange, .none⟩ s.part)) ∧
        (index ≤ 15 → (s.part.schedule.windows.getD index .free).inUse = true →
          let q : Ck4 := { s.part with schedule := { s.part.schedule with
            windows := s.part.schedule.windows.set index ⟨false, .block, 0, 0, 0, 0⟩ } }
          let result := q.project (s.part.time.second / 900) (900 - s.part.time.second % 900)
          let kept : Ck4 := { q with inventory := { q.inventory with stored := result } }
          exec (.clearWindow index) s = .next (s.answered ⟨.ok, .none⟩ (
            if s.part.time.valid = false then q
            else if s.part.inventory.stored.pass = true ∧ result.pass = false then
              kept.post .shortfall result.first (violationCode result.kind)
            else kept))) ∧
        (index ≤ 15 → (s.part.schedule.windows.getD index .free).inUse = false →
          exec (.clearWindow index) s = .next (s.answered ⟨.ok, .none⟩ s.part)) ∧
        exec .readWindows s = .next (s.told ⟨.ok, .windows s.part.schedule.windows⟩)) ∧
      (∀ (p : Ck4) (r : ProjectionResult),
        (p.storeProjection r).inventory.stored = r ∧
        (p.inventory.stored.pass = true → r.pass = false →
          p.storeProjection r = Ck4.post { p with inventory := { p.inventory with stored := r } }
            .shortfall r.first (violationCode r.kind)) ∧
        (p.inventory.stored.pass = false ∨ r.pass = true →
          p.storeProjection r = { p with inventory := { p.inventory with stored := r } })) ∧
      ([.none, .notSeeded, .heatRoom, .massLow, .massHigh, .heatLow, .rate, .heldHeat].map violationCode =
        [0, 1, 2, 3, 4, 5, 6, 7]))

/-- R22: the resolved record of an interval, for windows whose cap values are not negative (R18). In a mode other than AUTO and
MANUAL, and under a covering BLOCK window, it is nothing. In AUTO its power is the value of the covering SETPOINT window of lowest
index; where none covers, the power of a record that is committed or FIRM, and 0 of any other; its bands are those of such a record,
else 0. In MANUAL its power is the manual target, without bands. A power of either sign is reduced to the least of the covering caps
of its direction where that is smaller. R23: dispatch resolution is that of the mode in force; projected resolution is dispatch
resolution for the active interval and, for every other, that of AUTO. -/
def Obligations.ResolutionFollowsWindows : Prop :=
  (∀ (p : Ck4) (a i : Nat),
    p.dispatchResolution i = resolve p.schedule p.dispatch.manualTarget p.mode i ∧
    p.projectedResolution a a = resolve p.schedule p.dispatch.manualTarget p.mode a ∧
    (i ≠ a → p.projectedResolution a i = resolve p.schedule p.dispatch.manualTarget .auto i)) ∧
  ∀ (s : Schedule) (target : Int) (i : Nat) (mode : Mode),
    (∀ w ∈ s.windows, w.kind = .capDischarge ∨ w.kind = .capCharge → 0 ≤ w.value) →
    let r := resolve s target mode i
    let covers (w : Window) : Prop := w.inUse = true ∧ w.first ≤ i ∧ i ≤ w.last ∧ w.mask.testBit (i % 4) = true
    let setpoint (n : Nat) : Prop :=
      n < s.windows.length ∧ (s.windows.getD n .free).kind = .setpoint ∧ covers (s.windows.getD n .free)
    let blocked : Prop := ∃ w ∈ s.windows, w.kind = .block ∧ covers w
    let counts : Prop := (s.record i).committed = true ∨ (s.record i).status = .firm
    let reduced (z x : Int) : Prop :=
      (z = 0 → x = 0) ∧
      (0 < z → 0 ≤ x ∧ x ≤ z ∧ (∀ w ∈ s.windows, w.kind = .capDischarge → covers w → x ≤ w.value) ∧
        (x = z ∨ ∃ w ∈ s.windows, w.kind = .capDischarge ∧ covers w ∧ x = w.value)) ∧
      (z < 0 → x ≤ 0 ∧ z ≤ x ∧ (∀ w ∈ s.windows, w.kind = .capCharge → covers w → -w.value ≤ x) ∧
        (x = z ∨ ∃ w ∈ s.windows, w.kind = .capCharge ∧ covers w ∧ x = -w.value))
    (mode ≠ .auto → mode ≠ .manual → r = ⟨0, 0, 0⟩) ∧
    (blocked → r = ⟨0, 0, 0⟩) ∧
    (mode = .manual → ¬ blocked → reduced target r.power ∧ r.up = 0 ∧ r.down = 0) ∧
    (mode = .auto → ¬ blocked →
      (∀ n, n < s.windows.length → setpoint n → (∀ k, k < n → ¬ setpoint k) →
        reduced (s.windows.getD n .free).value r.power) ∧
      ((∀ n, n < s.windows.length → ¬ setpoint n) →
        (counts → reduced (s.record i).power r.power) ∧ (¬ counts → r.power = 0)) ∧
      (counts → r.up = (s.record i).up ∧ r.down = (s.record i).down) ∧ (¬ counts → r.up = 0 ∧ r.down = 0))

/-! ### Dispatch -/

/-- R129 SetManualTarget, within the mode and rating checks, and R115 SetRampGear. The ratings are those that dispatch uses: after a
store of MACHINES, until the next cycle, the values it had before (R112; log entry 39). That -32768 is refused, and a target beyond
32767 either way, is the model's reading (log entry 14). -/
def Obligations.ManualTargetAndGearResults : Prop :=
  ∀ s : State, s.served →
    let rating (m : MachineId) : Nat := match s.part.dispatch.held with
      | some values => (values.getD (3 * machineIndex m) 0).toNat
      | none => s.part.rating m
    (∀ z, exec (.setManualTarget z) s = .next (
      if s.part.mode ≠ .manual then s.answered ⟨.wrongMode, .none⟩ s.part
      else if z < -32767 ∨ 32767 < z ∨ (rating .e1 + rating .e2 : Nat) < z ∨
          (rating .c1 + rating .c2 + rating .c3 : Nat) < -z then
        s.answered ⟨.argRange, .none⟩ s.part
      else s.answered ⟨.ok, .none⟩ { s.part with dispatch := { s.part.dispatch with manualTarget := z } })) ∧
    (∀ g, exec (.setRampGear g) s = .next (
      if g > 3 then s.answered ⟨.argRange, .none⟩ s.part
      else s.answered ⟨.ok, .none⟩ { s.part with dispatch := { s.part.dispatch with gear := g } }))

/-- R113: a cycle in STANDBY, UNCONFIGURED or SHUTDOWN leaves dispatch at rest and counts; with P_res already 0 it hands
nothing to any other block. The model's choices: the bands become 0 (log entry 33), and the timer fires at any elapsed count (log
entry 3). From the cycle on the constants are used as they are stored (R112, log entry 39). -/
def Obligations.CycleAtRest : Prop :=
  ∀ s : State, s.part.mode ≠ .auto → s.part.mode ≠ .manual →
    (s.part.dispatch.pRes = 0 →
      exec .dispatchCycle s = .next (s.ended { s.part with dispatch := { s.part.dispatch with
        t0 := 0, t0Up := 0, t0Down := 0, s := 0, pRes := 0, f := 0, clamp := .none, permitDischarge := false
        permitCharge := false, cycles := s.part.dispatch.cycles + 1, held := none
        cycleTimer := 1000 - s.part.time.elapsed % 1000 } })) ∧
    (∃ t : State, exec .dispatchCycle s = .next t ∧ t.pending = s.pending ∧ t.part.dispatch.pRes = 0 ∧
      t.part.dispatch.s = 0 ∧ t.part.dispatch.f = 0 ∧ t.part.dispatch.cycles = s.part.dispatch.cycles + 1 ∧
      t.part.dispatch.shortfallSum = s.part.dispatch.shortfallSum ∧
      (∀ m, t.part.mach m = s.part.mach m) ∧ t.part.protection = s.part.protection ∧ t.part.inventory = s.part.inventory)

/-- R114 to R118, R120, R122, R123: a cycle in AUTO or MANUAL with plant time valid: the targets it reads; the move of S by one ramp
step, toward 0 first, and out of 0 only into a direction that is not barred; the permits; P_res by the meter; F through the five
clamps in their order, and the binding clamp as the last that changed it; the sums. `ReserveAndShares` gives the P_res of a
frequency. The heat that clamp 5 reads is that after a changed P_res has been handed to the allocator (log entry 36). The constants
are used as they are stored (R112); the command is the firing of the timer at any elapsed count (log entry 3). -/
def Obligations.CycleRunning : Prop :=
  (∀ (p : Ck4) (d : Dir), p.heatAvailable d = true ↔
    (d = .discharge ∧ ((∃ v, p.eligibleDischarge v = true) ∨ ∃ m v, machineDir m = .discharge ∧
      ((p.vessel v).use = .charging m ∨ (p.vessel v).use = .discharging m ∨ (p.vessel v).use = .switchingIn m))) ∨
    (d = .charge ∧ ((∃ v, p.eligibleCharge v = true) ∨ p.allocator.bypassPermitted = true ∨ ∃ m v, machineDir m = .charge ∧
      ((p.vessel v).use = .charging m ∨ (p.vessel v).use = .discharging m ∨ (p.vessel v).use = .switchingIn m)))) ∧
  ∀ s : State, s.part.mode = .auto ∨ s.part.mode = .manual → s.part.time.valid = true →
    let r := s.part.dispatchResolution (s.part.time.second / 900)
    let step : Nat := max 1 (s.part.constantNat .machines 19 / 2 ^ s.part.dispatch.gear)
    let toward (x y : Int) : Int := if (y - x).natAbs ≤ step then y else if x < y then x + step else x - step
    let inService (m : MachineId) : Prop :=
      (s.part.mach m).state = .loading ∨ (s.part.mach m).state = .loaded ∨ (s.part.mach m).state = .unloading
    let dwells (d : Dir) : Prop := (s.part.dispatch.dwell.map (·.blocked)) = some d
    let barred (d : Dir) : Prop := (∃ m, machineDir m ≠ d ∧ inService m) ∨ dwells d
    let kept : Int := max (-(r.down : Int)) (min (r.up : Int) s.part.dispatch.pRes)
    let cut (limit : Nat) (f : Int) : Int := max (-(limit : Int)) (min (limit : Int) f)
    let counted (m : MachineId) : Nat := if (s.part.mach m).state = .tripped ∨ (s.part.mach m).state = .lockedOut ∨
      (s.part.mach m).source = .lost then 0 else s.part.rating m
    let limit (d : Dir) : Nat := ((machinesOf d).map counted).sum
    ∃ t : State, exec .dispatchCycle s = .next t ∧ t.pending = s.pending ∧ t.part.dispatch.held = none ∧
      t.part.dispatch.t0 = r.power ∧ t.part.dispatch.t0Up = r.up ∧ t.part.dispatch.t0Down = r.down ∧
      let x := s.part.dispatch.s
      let x' := t.part.dispatch.s
      let z := t.part.dispatch.pRes
      let f := t.part.dispatch.f
      (∀ d, powerDir x = some d →
        (powerDir r.power = some d → x' = toward x r.power) ∧ (powerDir r.power ≠ some d → x' = toward x 0)) ∧
      (x = 0 → r.power = 0 → x' = 0) ∧
      (∀ d, x = 0 → powerDir r.power = some d → (barred d → x' = 0) ∧ (¬ barred d → x' = toward 0 r.power)) ∧
      (t.part.dispatch.permitDischarge = true ↔ 0 < x' ∧ ¬ dwells .discharge) ∧
      (t.part.dispatch.permitCharge = true ↔ x' < 0 ∧ ¬ dwells .charge) ∧
      (s.part.dispatch.meter = .lost → z = 0) ∧
      (s.part.dispatch.meter = .stale ∨ (s.part.dispatch.meter = .fresh ∧
        (s.part.dispatch.frequencySinceFresh = false ∨ s.part.dispatch.frequency = none)) → z = kept) ∧
      (∀ hz, s.part.dispatch.meter = .fresh → s.part.dispatch.frequencySinceFresh = true →
        s.part.dispatch.frequency = some hz → z = s.part.reserveAt hz r.up r.down) ∧
      (x' = 0 → f = 0 ∧ t.part.dispatch.clamp = (if z = 0 then .none else .mode)) ∧
      (∀ d, powerDir x' = some d →
        let heat := (if z = s.part.dispatch.pRes then s.part else s.part.takeReserve z).heatAvailable d
        let f1 : Int := if powerDir (x' + z) = some (otherDir d) then 0 else x' + z
        let f2 := cut (limit d) f1
        let f3 := cut (s.part.rateLimit d) f2
        let f4 : Int := if s.part.marginReached d then 0 else f3
        f = (if heat then f4 else 0) ∧
        t.part.dispatch.clamp = (if f ≠ f4 then .heat else if f4 ≠ f3 then .margin else if f3 ≠ f2 then .rate
          else if f2 ≠ f1 then .availability else if f1 ≠ x' + z then .mode else .none)) ∧
      t.part.dispatch.cycles = s.part.dispatch.cycles + 1 ∧
      t.part.dispatch.reserveSum = s.part.dispatch.reserveSum + z ∧
      t.part.dispatch.shortfallSum = s.part.dispatch.shortfallSum + 100 * (r.power + z - f) ∧
      t.part.protection = s.part.protection ∧ t.part.time = s.part.time ∧ t.part.inventory = s.part.inventory ∧
      t.part.schedule = s.part.schedule

/-- R124 to R128, R84, R85, R87, R88: what a cycle in AUTO or MANUAL does to the machines, for the states that a run reaches
(`BindingsInvariant`, `ReserveAndSetpointsInvariant`). Those whose direction is not that of S, and all of them where F is 0, are
shed out of LOADED; a machine shed passes to UNLOADING without demand. One is started or enters LOADING only in the direction of S,
with the margin not reached, under its start conditions or its dwell permit; a machine started has its START order placed, its start
timer running, its flags cleared, and one start more. R84, R124: a machine recalled takes demand SERVE, its linger timer stops and
no start is counted. Machines are asked for in the direction of S with the margin not reached, those to recall first, in the order
of EOH, each only while the capacity committed so far is below the target; where it stays below, no machine is left to ask. R125,
R126: in the direction of S, with F not 0, the machines in LOADED are shed from the highest EOH down, each only where it is the shed
candidate and the capacity committed less its rating still covers the target and unload_margin, which can hold of one machine alone,
or where the part of F falls short of the minimum powers of it and of those that would follow it. The setpoints of the LOADED
machines sum to the part of F that the placed first LOADs leave, up to their ratings, each between its minimum power and its rating.
A machine with load pending is ordered LOAD exactly where the headroom holds it. The cycle fires at any elapsed count (log entry 3);
how machines are shed to fit the part of F is log entry 17, the order of load attempts and headroom checks log entry 40. -/
def Obligations.CycleCommitsAndSplits : Prop :=
  (∀ s : State, s.part.mode = .auto ∨ s.part.mode = .manual → s.part.bindingsOk = true → s.part.setpointsOk = true →
    ∃ t : State, exec .dispatchCycle s = .next t ∧ t.pending = s.pending ∧
      let was (m : MachineId) := (s.part.mach m).state
      let now (m : MachineId) := (t.part.mach m).state
      let placed (m : MachineId) : Prop := was m = .loading ∧ (s.part.mach m).phase.kind = some .load
      (∀ m, now m = .loaded → was m = .loaded ∧ powerDir t.part.dispatch.s = some (machineDir m) ∧ t.part.dispatch.f ≠ 0) ∧
      (∀ m, was m = .loaded → now m ≠ .loaded →
        now m = .unloading ∧ (t.part.mach m).demand = .none ∧ (t.part.mach m).last.cause = .shed) ∧
      (∀ m, was m ≠ .starting → now m = .starting → was m = .stopped ∧ powerDir t.part.dispatch.s = some (machineDir m) ∧
        s.part.marginReached (machineDir m) = false ∧ s.part.mayStart m = true ∧
        t.part.mach m = { s.part.mach m with
          state := .starting, last := ⟨.stopped, .starting, .startDemand, s.part.stamp⟩, demand := .serve
          phase := ⟨some .start, 0, false⟩, setpoint := 0, startTimer := some (1000 * s.part.startLimit m)
          startFailed := false, correcting := false, controllerTripHanded := false
          counters := { (s.part.mach m).counters with starts := min 4294967295 ((s.part.mach m).counters.starts + 1) } } ∧
        (t.part.slot (.machine m)).order = some (.machine .start 0) ∧ (t.part.slot (.machine m)).status = .waiting ∧
        (t.part.slot (.machine m)).sequence = some (nextSequence (s.part.slot (.machine m)).lastGiven)) ∧
      (∀ m, (s.part.mach m).demand = .none → (t.part.mach m).demand = .serve →
        was m = .idle ∨ (was m = .stopped ∧ now m = .starting)) ∧
      (∀ m, was m = .idle → (s.part.mach m).demand = .none → (t.part.mach m).demand = .serve →
        (now m = .idle ∨ now m = .loading) ∧ (t.part.mach m).lingerTimer = none ∧
        (t.part.mach m).counters = (s.part.mach m).counters ∧
        (now m = .idle → t.part.mach m = { s.part.mach m with demand := .serve, lingerTimer := none } ∧
          t.part.slot (.machine m) = s.part.slot (.machine m))) ∧
      (let recalled (m : MachineId) : Prop :=
         was m = .idle ∧ (s.part.mach m).demand = .none ∧ (t.part.mach m).demand = .serve
       let started (m : MachineId) : Prop := was m = .stopped ∧ now m = .starting
       let asked (m : MachineId) : Prop := recalled m ∨ started m
       let leads (k m : MachineId) : Prop := s.part.eoh k < s.part.eoh m ∨
         (s.part.eoh k = s.part.eoh m ∧ machineIndex k < machineIndex m)
       let earlier (k m : MachineId) : Prop := (recalled k ∧ (started m ∨ leads k m)) ∨ (started k ∧ started m ∧ leads k m)
       let held (d : Dir) : Nat := ((machinesOf d).map fun k => if (s.part.mach k).demand = .serve ∧
         (was k = .starting ∨ was k = .idle ∨ was k = .loading ∨ was k = .loaded ∨ was k = .unloading)
         then t.part.rating k else 0).sum
       let target (d : Dir) : Nat := t.part.dispatch.s.natAbs +
         (match d with | .discharge => t.part.dispatch.t0Up | .charge => t.part.dispatch.t0Down)
       (∀ m, asked m → powerDir t.part.dispatch.s = some (machineDir m) ∧ s.part.marginReached (machineDir m) = false ∧
         held (machineDir m) + ((machinesOf (machineDir m)).map fun k =>
           if asked k ∧ earlier k m then t.part.rating k else 0).sum < target (machineDir m)) ∧
       (∀ m k, asked m → ¬ asked k → machineDir k = machineDir m →
         (recalled m → was k = .idle → (s.part.mach k).demand = .none → leads m k) ∧
         (started m → ¬ (was k = .idle ∧ (s.part.mach k).demand = .none) ∧
           (was k = .stopped → s.part.mayStart k = true → leads m k))) ∧
       (∀ d, powerDir t.part.dispatch.s = some d → s.part.marginReached d = false →
         held d + ((machinesOf d).map fun k => if asked k then t.part.rating k else 0).sum < target d →
         ∀ k, machineDir k = d → ¬ asked k → ¬ (was k = .idle ∧ (s.part.mach k).demand = .none) ∧
           ¬ (was k = .stopped ∧ s.part.mayStart k = true))) ∧
      (∀ m, was m ≠ .loading → now m = .loading → was m = .idle ∧ (t.part.mach m).demand = .serve ∧
        powerDir t.part.dispatch.s = some (machineDir m) ∧ t.part.dwellBlocks (machineDir m) = false ∧
        s.part.marginReached (machineDir m) = false ∧ t.part.dirInService (otherDir (machineDir m)) = false ∧
        ((t.part.binding m).target.isSome = true ∨ (t.part.binding m).bypass = true)) ∧
      (∀ m, was m ≠ .stopped → was m ≠ .idle → was m ≠ .loaded → now m = was m) ∧
      (∀ m, was m = .loading → (s.part.mach m).loadPending = true →
        ((t.part.mach m).loadPending = false → (t.part.mach m).setpoint = t.part.minPower m ∧
          (t.part.mach m).setpoint + t.part.othersOrdered m ≤ t.part.rateLimit (machineDir m)) ∧
        ((t.part.mach m).loadPending = true →
          t.part.rateLimit (machineDir m) < t.part.minPower m + t.part.othersOrdered m)) ∧
      (∀ d, powerDir t.part.dispatch.s = some d → t.part.dispatch.f ≠ 0 →
        (t.part.committedCapacity d < t.part.targetCapacity d → s.part.marginReached d = false →
          (∀ m, was m = .loaded → now m = .loaded) →
          ∀ k, machineDir k = d → ¬ (now k = .idle ∧ (t.part.mach k).demand = .none) ∧
            ¬ (now k = .stopped ∧ t.part.mayStart k = true)) ∧
        ((∀ m, 0 < t.part.rating m ∧ t.part.minPower m ≤ t.part.rating m) →
          ((machinesOf d).map fun m => if now m = .loaded then (t.part.mach m).setpoint else 0).sum =
            min (t.part.dispatch.f.natAbs - ((machinesOf d).map fun m => if was m = .loading ∧
              (s.part.mach m).phase.kind = some .load then (s.part.mach m).setpoint else 0).sum)
              ((machinesOf d).map fun m => if now m = .loaded then t.part.rating m else 0).sum ∧
          ∀ m, now m = .loaded → t.part.minPower m ≤ (t.part.mach m).setpoint ∧ (t.part.mach m).setpoint ≤ t.part.rating m)) ∧
      (∀ d, powerDir t.part.dispatch.s = some d → t.part.dispatch.f ≠ 0 →
        let before (k m : MachineId) : Prop := s.part.eoh m < s.part.eoh k ∨
          (s.part.eoh m = s.part.eoh k ∧ machineIndex m < machineIndex k)
        let onward (m : MachineId) : List MachineId := (machinesOf d).filter fun k => was k = .loaded ∧ ¬ before k m
        let committed : Nat := t.part.committedCapacity d + ((machinesOf d).map fun k =>
          if was k = .loaded ∧ now k ≠ .loaded ∧ (s.part.mach k).demand = .serve then t.part.rating k else 0).sum
        let excess (m : MachineId) : Prop := (∀ k ∈ machinesOf d, was k = .loaded → ¬ before k m) ∧
          t.part.targetCapacity d + t.part.unloadMargin + t.part.rating m ≤ committed
        let short (m : MachineId) : Prop :=
          min (t.part.dispatch.f.natAbs - ((machinesOf d).map fun k =>
              if was k = .loading ∧ (s.part.mach k).phase.kind = some .load then (s.part.mach k).setpoint else 0).sum)
            ((onward m).map t.part.rating).sum < ((onward m).map t.part.minPower).sum
        ∀ m ∈ machinesOf d, was m = .loaded →
          (now m ≠ .loaded ↔ ∀ k ∈ machinesOf d, was k = .loaded → k = m ∨ before k m → excess k ∨ short k)) ∧
      (∀ m, placed m → (s.part.mach m).loadPending = false → (t.part.mach m).setpoint = (s.part.mach m).setpoint)) ∧
  (∀ (p : Ck4) (m : MachineId), p.mayStart m = true ↔ (p.mode = .auto ∨ p.mode = .manual) ∧
    p.protection.tripInProgress = false ∧ p.unassignedOrActive (.breaker m) = true ∧ (p.mach m).source = .fresh)

/-- R120: reserve deployment from a frequency is 0 within the deadband, beyond it the proportional part of the band, rounded toward
zero and within the band, and the whole band at f_full and beyond. R127: the shares of a part that covers the minimum powers and is
within the ratings: round by round the machines still sharing are those whose part by rating is not below their minimum power; the
others are fixed at it; those left take their parts and, lowest index first, one left-over tenth each; the shares sum to the part
and each lies between its machine's minimum power and rating. -/
def Obligations.ReserveAndShares : Prop :=
  (∀ (p : Ck4) (f up down : Nat),
      let error : Nat := ((f : Int) - p.fNominal).natAbs
      p.reserveAt f up down ≤ (up : Int) ∧ -(down : Int) ≤ p.reserveAt f up down ∧
      (error ≤ p.deadband → p.reserveAt f up down = 0) ∧
      (p.deadband < error → f < p.fNominal →
        p.reserveAt f up down = (min up ((error - p.deadband) * up / (p.fFull - p.deadband)) : Nat)) ∧
      (p.deadband < error → p.fNominal < f →
        p.reserveAt f up down = -(min down ((error - p.deadband) * down / (p.fFull - p.deadband)) : Nat)) ∧
      (p.deadband < p.fFull → f + p.fFull ≤ p.fNominal → p.reserveAt f up down = (up : Int)) ∧
      (p.deadband < p.fFull → p.fNominal + p.fFull ≤ f → p.reserveAt f up down = -(down : Int))) ∧
  (∀ (p : Ck4) (d : Dir) (ms : List MachineId) (a : Nat), ms.Sublist (machinesOf d) →
      (∀ m ∈ ms, 0 < p.rating m ∧ p.minPower m ≤ p.rating m) →
      (ms.map p.minPower).sum ≤ a → a ≤ (ms.map p.rating).sum →
      let share (m : MachineId) : Nat := shareIn (p.shares a ms 3) m
      ((ms.map share).sum = a ∧ ∀ m ∈ ms, p.minPower m ≤ share m ∧ share m ≤ p.rating m) ∧
      ∃ still : Nat → List MachineId,
        let left (n : Nat) : Nat := a - ((ms.filter fun m => m ∉ still n).map p.minPower).sum
        let part (n : Nat) (m : MachineId) : Nat := left n * p.rating m / ((still n).map p.rating).sum
        still 0 = ms ∧ (∀ n, still (n + 1) = (still n).filter fun m => p.minPower m ≤ part n m) ∧ still 4 = still 3 ∧
        (∀ m ∈ ms, m ∉ still 3 → share m = p.minPower m) ∧
        (∀ m ∈ still 3, share m = part 3 m +
          (if ((still 3).filter fun k => machineIndex k < machineIndex m).length < left 3 - ((still 3).map (part 3)).sum
            then 1 else 0)))

/-- R117, R107 and R109: the dwell timer expires, the counter timer fires, a save completes. The model's choices: each event is
taken at any elapsed count (log entry 3), a completion with no save in flight does nothing (log entry 29), and the CRC is that of
the model's layout of a slot's bytes (log entry 8). R106, R117, R109: what every transition of a machine writes in its record,
posts, asks of the counters and does to the dwell timer: the last exit of a direction from LOADING, LOADED and UNLOADING starts it,
an entry stops the one that blocks the other direction, and any other transition leaves it. What it does to bindings is
`BindingOperations`. -/
def Obligations.DwellCounterAndSaveResults : Prop :=
  (([.stopped, .starting, .idle, .loading, .loaded, .unloading, .stopping, .tripped, .lockedOut] : List MachineState).map
      machineStateCode = List.range 9 ∧
    ([.none, .startDemand, .runReported, .loadDemand, .loadedReported, .noVessel, .reheatLow, .shed, .margin, .heat, .bypassLost,
      .faultUnload, .mode, .restart, .linger, .stoppedReported, .trip, .tripAck, .lockout, .lockoutReleased, .unexpectedReport,
      .adopted] : List Cause).map causeCode = List.range 22) ∧
  (∀ (p : Ck4) (m : MachineId) (new : MachineState) (c : Cause),
    let r := p.mach m
    let q := p.transition m new c
    let other := otherDir (machineDir m)
    let others : Prop := ∃ k, k ≠ m ∧ machineDir k = machineDir m ∧ inService (p.mach k).state = true
    let blocks : Prop := (p.dispatch.dwell.map (·.blocked)) = some other
    q.mach m = { r with
      state := new, last := ⟨r.state, new, c, p.stamp⟩, correcting := false
      startTimer := if r.state = .starting then none else r.startTimer
      lingerTimer := if r.state = .idle then none else r.lingerTimer
      loadPending := r.loadPending && decide (r.state ≠ .loading) } ∧
    (∀ k, k ≠ m → q.mach k = p.mach k) ∧
    q.station = (p.post .machineState (machineIndex m)
      (65536 * machineStateCode r.state + 256 * machineStateCode new + causeCode c : Nat)).station ∧
    q.sequencer.saveAsked = (p.sequencer.saveAsked || decide (new = .stopped)) ∧
    (inService r.state = true → inService new = false → ¬ others →
      q.dispatch.dwell = if p.dispatchDwell = 0 then none else some ⟨1000 * p.dispatchDwell, other⟩) ∧
    (inService r.state = false → inService new = true → blocks → q.dispatch.dwell = none) ∧
    (inService r.state = inService new ∨ (inService r.state = true ∧ others) ∨ (inService r.state = false ∧ ¬ blocks) →
      q.dispatch.dwell = p.dispatch.dwell) ∧
    q.dispatch = { p.dispatch with dwell := q.dispatch.dwell } ∧ q.protection = p.protection ∧ q.inventory = p.inventory ∧
    q.schedule = p.schedule ∧ q.time = p.time ∧ q.constants = p.constants) ∧
  ∀ s : State,
    exec .dwellExpired s = .next (s.ended { s.part with dispatch := { s.part.dispatch with dwell := none } }) ∧
    (∃ q : Ck4, exec .counterTick s = .next (s.ended q) ∧
      (∀ m, q.mach m = { s.part.mach m with counters := { (s.part.mach m).counters with
        runSeconds := if (s.part.mach m).state = .idle ∨ inService (s.part.mach m).state = true then
          min 4294967295 ((s.part.mach m).counters.runSeconds + 1) else (s.part.mach m).counters.runSeconds
        loadedSeconds := if (s.part.mach m).state = .loaded then
          min 4294967295 ((s.part.mach m).counters.loadedSeconds + 1) else (s.part.mach m).counters.loadedSeconds
        loadMs := if (s.part.mach m).state = .loaded then
          min 281474976710655 ((s.part.mach m).counters.loadMs + (s.part.mach m).setpoint * 1000 / s.part.rating m)
          else (s.part.mach m).counters.loadMs } }) ∧
      q.sequencer = { s.part.sequencer with
        machines := q.sequencer.machines, counterTimer := 1000 - s.part.time.elapsed % 1000 } ∧
      q = { s.part with sequencer := q.sequencer }) ∧
    (s.part.sequencer.save = none → exec .counterSaveComplete s = .next (s.ended s.part)) ∧
    (∀ n t c, s.part.sequencer.save = some ⟨false, n, t, c⟩ →
      exec .counterSaveComplete s = .next (s.ended { s.part with
        sequencer := { s.part.sequencer with save := none, lastSave := some ⟨n, t⟩ }
        constants := { s.part.constants with slotA := ⟨n, t, c, crc16 (slotBytes n t c)⟩ } })) ∧
    (∀ n t c, s.part.sequencer.save = some ⟨true, n, t, c⟩ →
      exec .counterSaveComplete s = .next (s.ended { s.part with
        sequencer := { s.part.sequencer with save := none, lastSave := some ⟨n, t⟩ }
        constants := { s.part.constants with slotB := ⟨n, t, c, crc16 (slotBytes n t c)⟩ } }))

/-! ### Inventory -/

/-- R27 to R29, R33, R35, R36: a totaliser difference moves the mass by exactly itself or, above the step, is discarded with a
fault, and the estimate, the working masses and the margins follow it (R29, R31, R32, R41); a residual within the tolerance corrects
the mass by 1/2^k of what it indicates, and one beyond it leaves the mass and counts, until N_drift. R37, R44, R52: then a reseed
takes the mass that the pressure gives, records DISCREPANCY, posts INVENTORY_RESEEDED with subject 1, and stores a projection. -/
def Obligations.MassFollowsTotalisersAndPressure : Prop :=
  ∀ (p : Ck4) (m : MachineId),
    (∀ t, p.inventory.baseline.get m = none → p.takeTotaliser m t =
      { p with inventory := { p.inventory with baseline := p.inventory.baseline.set m (some t) } }) ∧
    (∀ t b, p.inventory.baseline.get m = some b →
      let d := (t + 4294967296 - b) % 4294967296
      (d > p.maxStep → p.takeTotaliser m t = Ck4.recordFault
        { p with inventory := { p.inventory with baseline := p.inventory.baseline.set m (some t) } }
        ⟨.cavern, .totaliser, machineIndex m, (min 2147483647 d : Nat), .warn, true⟩) ∧
      (d ≤ p.maxStep → (p.takeTotaliser m t).inventory.m =
        (if p.inventory.state = .unseeded then p.inventory.m
         else if machineDir m = .charge then min 281474976710655 (p.inventory.m + d) else p.inventory.m - d) ∧
        (p.takeTotaliser m t).inventory.state = p.inventory.state ∧
        (p.takeTotaliser m t).inventory.baseline = p.inventory.baseline.set m (some t) ∧
        (p.takeTotaliser m t).protection = p.protection ∧
        (p.inventory.state = .unseeded ∨ p.constants.sections.cavern.good = false → (p.takeTotaliser m t).inventory =
          { p.inventory with baseline := p.inventory.baseline.set m (some t), m := (p.takeTotaliser m t).inventory.m }) ∧
        (p.inventory.state ≠ .unseeded → p.constants.sections.cavern.good = true →
          let mass := (p.takeTotaliser m t).inventory.m
          let est := match p.inventory.temperature with
            | some x => min 65535 ((2 * (mass * p.gas * (x + 2732).toNat) + p.volume * 10000000) / (2 * (p.volume * 10000000)))
            | none => 0
          (p.takeTotaliser m t).inventory = { p.inventory with
            baseline := p.inventory.baseline.set m (some t), m := mass, pEst := est
            wDis := mass - p.inventory.mMin, wChg := p.inventory.mMax - mass
            dischargeMargin := decide (est < p.pMin + p.pMargin), chargeMargin := decide (est > p.pMax - p.pMargin) }) ∧
        p.takeTotaliser m t = { p with inventory := (p.takeTotaliser m t).inventory })) ∧
    (∀ source t10 kPa : Nat, let r : Int := (kPa : Int) - (p.inventory.pEst : Int)
      let dm := r.natAbs * p.volume * 10000000 / (p.gas * t10) / 2 ^ p.shiftK
      (r.natAbs ≤ p.tol → p.reconcile source t10 kPa = { p with inventory := { p.inventory with
        m := if r < 0 then p.inventory.m - dm else min 281474976710655 (p.inventory.m + dm)
        residual := r, lastPressure := some kPa, drift := 0, state := .tracking } }) ∧
      (r.natAbs > p.tol → p.inventory.drift + 1 < p.nDrift →
        p.reconcile source t10 kPa = { p with inventory := { p.inventory with
          residual := r, lastPressure := some kPa, drift := p.inventory.drift + 1
          state := if p.inventory.state = .reseeded then .reseeded else .drifting } }) ∧
      (r.natAbs > p.tol → p.nDrift ≤ p.inventory.drift + 1 →
        (p.reconcile source t10 kPa).inventory.m =
          min 281474976710655 ((2 * (kPa * p.volume * 10000000) + p.gas * t10) / (2 * (p.gas * t10))) ∧
        (p.reconcile source t10 kPa).inventory.drift = 0 ∧ (p.reconcile source t10 kPa).inventory.state = .reseeded ∧
        (p.reconcile source t10 kPa).inventory.residual = r ∧ (p.reconcile source t10 kPa).inventory.lastPressure = some kPa ∧
        let fault : FaultReport := ⟨.cavern, .discrepancy, source, r, .warn, true⟩
        let on := p.protection.enables.cavern
        let result := (p.reconcile source t10 kPa).inventory.stored
        (p.reconcile source t10 kPa).protection.table = (if on = true ∧ p.protection.table.length < 16 then
          p.protection.table ++ [⟨p.protection.nextSequence, p.stamp, fault⟩] else p.protection.table) ∧
        (p.reconcile source t10 kPa).station.notices = queueAfter p.station.notices
          ((if on = true then p.faultNotices fault else []) ++ [⟨.inventoryReseeded, p.stamp, 1, (kPa : Nat)⟩] ++
            (if p.inventory.stored.pass = true ∧ result.pass = false then
              [⟨.shortfall, p.stamp, result.first, violationCode result.kind⟩] else []))))

/-! ### Heat store -/

/-- R63 SetHold, R64 SetFreeze and R65 SetBypass, each with the projection that it has stored (R44, R46, R52). R65, R91, R89: what a
change of the bypass permission does, from SetBypass, COOLER_READY (R170) or a store of LINES: a projection is run and stored; where
the permission is withdrawn, a train in bypass is unloaded out of LOADED or, with its first LOAD placed, LOADING, and leaves LOADING
for IDLE without it, from where it may go on. The bypass flags it is said for are those of trains, in LOADING or LOADED
(`BindingsInvariant`). That the projection comes before the trains is log entry 28, that one may enter LOADING again in the same
step log entry 16. That a SetFreeze that turns freeze off stores its projection before any vessel that becomes eligible is
allocated, an order that R64 leaves open, is the model's choice (log entry 15). -/
def Obligations.HoldFreezeBypassResults : Prop :=
  (∀ (n : Nat) (s : State), s.served →
      (n > 7 → exec (.setHold n) s = .next (s.answered ⟨.argRange, .none⟩ s.part)) ∧
      (n ≤ 7 → n = s.part.allocator.hold → exec (.setHold n) s = .next (s.answered ⟨.ok, .none⟩ s.part)) ∧
      (n ≤ 7 → n ≠ s.part.allocator.hold → ∃ q : Ck4,
        exec (.setHold n) s = .next (s.answered ⟨.ok, .none⟩ q.runProjection) ∧
        q = { s.part with allocator := { s.part.allocator with hold := n, vessels := q.allocator.vessels } } ∧
        ∀ v, q.vessel v = { s.part.vessel v with held := decide (vesselIndex v < n) })) ∧
  (∀ (n : Nat) (s : State), s.served →
      (n > 1 → exec (.setFreeze n) s = .next (s.answered ⟨.argRange, .none⟩ s.part) ∧
        exec (.setBypass n) s = .next (s.answered ⟨.argRange, .none⟩ s.part)) ∧
      (n ≤ 1 → s.part.allocator.freeze = decide (n = 1) →
        exec (.setFreeze n) s = .next (s.answered ⟨.ok, .none⟩ s.part)) ∧
      (n ≤ 1 → ∃ t : State, exec (.setFreeze n) s = .next t ∧ t.pending = s.pending ∧
        t.part.station.answer = some ⟨.ok, .none⟩ ∧ t.part.allocator.freeze = decide (n = 1) ∧
        t.part.allocator.hold = s.part.allocator.hold ∧ t.part.sequencer.machines = s.part.sequencer.machines ∧
        t.part.protection = s.part.protection ∧ t.part.schedule = s.part.schedule ∧ t.part.time = s.part.time ∧
        t.part.dispatch = s.part.dispatch ∧ t.part.constants = s.part.constants ∧
        (s.part.allocator.freeze = decide (n = 0) → t.part.inventory =
          (Ck4.runProjection { s.part with allocator := { s.part.allocator with freeze := decide (n = 1) } }).inventory)) ∧
      (s.part.allocator.freeze = false → exec (.setFreeze 1) s = .next (s.answered ⟨.ok, .none⟩
        (Ck4.runProjection { s.part with allocator := { s.part.allocator with freeze := true } }))) ∧
      (n ≤ 1 → exec (.setBypass n) s = .next (s.answered ⟨.ok, .none⟩
        (Ck4.recomputeBypass { s.part with allocator := { s.part.allocator with bypassRequested := decide (n = 1) } }))) ∧
      (n ≤ 1 → ∃ t : State, exec (.setBypass n) s = .next t ∧ t.pending = s.pending ∧
        t.part.station.answer = some ⟨.ok, .none⟩ ∧ t.part.allocator.bypassRequested = decide (n = 1) ∧
        t.part.allocator.bypassPermitted = (decide (n = 1) && s.part.coolerAllows) ∧
        t.part.allocator.hold = s.part.allocator.hold ∧ t.part.protection = s.part.protection ∧
        t.part.schedule = s.part.schedule ∧ t.part.time = s.part.time ∧ t.part.constants = s.part.constants)) ∧
  (∀ p : Ck4,
      (p.time.valid = false → p.runProjection = p) ∧
      (p.time.valid = true →
        let r := p.project (p.time.second / 900) (900 - p.time.second % 900)
        let q := p.runProjection
        q.station.notices = queueAfter p.station.notices (if p.inventory.stored.pass = true ∧ r.pass = false then
          [⟨.shortfall, p.stamp, r.first, violationCode r.kind⟩] else []) ∧
        q = { p with
          inventory := { p.inventory with stored := r }
          station := { p.station with notices := q.station.notices, attentionPending := q.station.attentionPending } })) ∧
  (∀ p : Ck4,
      let now : Bool := p.allocator.bypassRequested && p.coolerAllows
      let told : Ck4 := Ck4.runProjection { p with allocator := { p.allocator with bypassPermitted := now } }
      let q := p.recomputeBypass
      (now = p.allocator.bypassPermitted → q = p) ∧
      (now = true → p.allocator.bypassPermitted = false → q = told) ∧
      (now = false → p.allocator.bypassPermitted = true → p.bindingsOk = true →
        q.inventory = told.inventory ∧ q.allocator.bypassPermitted = false ∧ q.protection = p.protection ∧
        q.schedule = p.schedule ∧ q.time = p.time ∧ q.constants = p.constants ∧ q.lines = p.lines ∧
        ∀ m, (q.binding m).bypass = false ∧
          let r := p.mach m
          let unloaded : MachineRecord := { r with
            state := .unloading, last := ⟨r.state, .unloading, .bypassLost, p.stamp⟩, phase := ⟨some .unload, 0, false⟩
            setpoint := 0, loadPending := if r.state = .loading then false else r.loadPending, correcting := false }
          ((p.binding m).bypass = false → q.mach m = r) ∧
          ((p.binding m).bypass = true → r.state = .loaded ∨ (r.state = .loading ∧ r.phase.kind = some .load) →
            q.mach m = unloaded ∧ (q.slot (.machine m)).order = some (.machine .unload 0)) ∧
          ((p.binding m).bypass = true → r.state = .loading → r.phase.kind ≠ some .load →
            (q.mach m).demand = r.demand ∧ (q.mach m).loadPending = false ∧
            ((q.mach m).state = .idle → (q.mach m).last = ⟨.loading, .idle, .bypassLost, p.stamp⟩ ∧
              q.slot (.machine m) = p.slot (.machine m)) ∧
            ((q.mach m).state = .loading → r.demand = .serve ∧ (q.binding m).target.isSome = true) ∧
            ((q.mach m).state = .stopping → r.demand = .none ∧
              (q.slot (.machine m)).order = some (.machine .stop 0)) ∧
            ((q.mach m).state = .idle ∨ (q.mach m).state = .loading ∨ (q.mach m).state = .stopping))))

/-- R78 IsolateVessel and R79 RestoreVessel. That a vessel FREE and NORMAL whose source is LOST turns DEGRADED at a restore (step
2), and does not stay NORMAL (the rule's last sentence), is the model's choice (log entry 44). -/
def Obligations.IsolateAndRestoreResults : Prop :=
  ∀ s : State, s.served →
    (∀ n, n > 7 → exec (.isolateVessel n) s = .next (s.answered ⟨.argRange, .none⟩ s.part) ∧
      exec (.restoreVessel n) s = .next (s.answered ⟨.argRange, .none⟩ s.part)) ∧
    (∀ v, (s.part.vessel v).use = .free →
      exec (.isolateVessel (vesselIndex v)) s = .next (s.answered ⟨.ok, .none⟩
        ((s.part.place (.vessel v) (.route .none)).setVessel v { s.part.vessel v with use := .isolated }))) ∧
    (∀ v, (s.part.vessel v).use = .isolated →
      exec (.isolateVessel (vesselIndex v)) s = .next (s.answered ⟨.ok, .none⟩ s.part)) ∧
    (∀ v m, (s.part.vessel v).use = .charging m ∨ (s.part.vessel v).use = .discharging m →
      ((s.part.mach m).state ≠ .tripped →
        exec (.isolateVessel (vesselIndex v)) s = .next (s.answered ⟨.busy, .none⟩ s.part)) ∧
      ((s.part.mach m).state = .tripped →
        ∃ t : State, exec (.isolateVessel (vesselIndex v)) s = .next t ∧ t.pending = s.pending ∧
          t.part.station.answer = some ⟨.ok, .none⟩ ∧
          (∀ w, t.part.vessel w = if w = v then { s.part.vessel v with use := .isolated } else s.part.vessel w) ∧
          (∀ k, t.part.binding k = if k = m then { s.part.binding m with bound := none } else s.part.binding k) ∧
          (t.part.slot (.vessel v)).order = some (.route .none) ∧
          t.part.sequencer.machines = s.part.sequencer.machines ∧ t.part.protection = s.part.protection)) ∧
    (∀ v m, (s.part.vessel v).use = .switchingIn m ∨ (s.part.vessel v).use = .switchingOut m →
      exec (.isolateVessel (vesselIndex v)) s = .next (s.answered ⟨.busy, .none⟩ s.part)) ∧
    (∀ v, (s.part.vessel v).use.engaged = true →
      exec (.restoreVessel (vesselIndex v)) s = .next (s.answered ⟨.busy, .none⟩ s.part)) ∧
    (∀ v, (s.part.vessel v).use.engaged = false →
      ∃ t : State, exec (.restoreVessel (vesselIndex v)) s = .next t ∧ t.pending = s.pending ∧
        t.part.station.answer = some ⟨.ok, .vesselCondition (t.part.vessel v).condition⟩ ∧
        (t.part.vessel v).condition =
          (if (s.part.vessel v).source = .lost then .degraded
           else if (s.part.vessel v).reported = true ∧ (s.part.vessel v).invalidCount > 3 then .degraded
           else .normal) ∧
        (t.part.vessel v).use ≠ .isolated ∧ (t.part.vessel v).held = (s.part.vessel v).held ∧
        t.part.allocator.hold = s.part.allocator.hold ∧ t.part.sequencer.machines = s.part.sequencer.machines ∧
        t.part.schedule = s.part.schedule ∧ t.part.inventory = s.part.inventory ∧ t.part.time = s.part.time)

/-- R74: the switchover timer of a machine with a target expires: the target is given up and DEGRADED, and SWITCH_TIMEOUT is
recorded where the VESSEL group is enabled and the table has room; a target that turns DEGRADED is given up in the same way without
the fault. Steps 3 and 4, where the bindings agree (`BindingsInvariant`): another vessel is sought under the recorded cause, which
decides where there is none: LOAD, that of a machine in LOADING (a train with bypass permission passes to bypass and makes its
headroom check, R88; any other machine leaves LOADING, R89, and with demand SERVE stays in IDLE), RELEASE, BYPASS_EXIT, and any
other cause under R75; each with what it posts. The event with no timer running, or with a timer and no target (which no run
reaches), does nothing (log entry 29); that an expiry is taken whatever time the timer still shows is the model's choice (log entry
3). That a machine whose target is given up without a new one keeps its switchover cause is the model's reading (log entry 35). -/
def Obligations.SwitchTimeoutResult : Prop :=
  (∀ (m : MachineId) (s : State),
    ((s.part.binding m).timer = none ∨ (s.part.binding m).target = none → exec (.switchTimeout m) s = .next (s.ended s.part)) ∧
    ((s.part.binding m).timer.isSome = true → exec (.switchTimeout m) s = .next (s.ended (s.part.giveUpTarget m true))) ∧
    (∀ v, (s.part.binding m).timer.isSome = true → (s.part.binding m).target = some v →
      ∃ t : State, exec (.switchTimeout m) s = .next t ∧ t.pending = s.pending ∧
        (t.part.vessel v).condition = .degraded ∧ (t.part.binding m).target ≠ some v ∧
        t.part.protection.table = (if s.part.protection.enables.vessel = true ∧ s.part.protection.table.length < 16 then
          s.part.protection.table ++ [⟨s.part.protection.nextSequence, s.part.stamp,
            ⟨.vessel, .switchTimeout, vesselIndex v, (machineIndex m : Nat), .unload, true⟩⟩]
          else s.part.protection.table) ∧
        t.part.protection.tripInProgress = s.part.protection.tripInProgress ∧ t.part.mode = s.part.mode ∧
        (∀ w, (t.part.vessel w).held = (s.part.vessel w).held) ∧ t.part.schedule = s.part.schedule ∧
        t.part.inventory = s.part.inventory)) ∧
  (∀ (p : Ck4) (m : MachineId) (v : VesselId), (p.vessel v).use = .switchingIn m → p.degradedTurn v = p.giveUpTarget m false) ∧
  (∀ (p : Ck4) (m : MachineId) (v : VesselId) (expired : Bool), p.bindingsOk = true → (p.binding m).target = some v →
    let b := p.binding m
    let r := p.mach m
    let q := p.giveUpTarget m expired
    let given : VesselRecord := { p.vessel v with use := .free, condition := .degraded, usable := 0, room := 0 }
    let choice := (p.setVessel v given).choose (machineDir m)
    let bypasses : Prop := machineDir m = .charge ∧ p.allocator.bypassPermitted = true
    let emptied : Binding := { b with target := none, timer := none }
    let stands : Prop := q.sequencer.machines = p.sequencer.machines
    let posts (more : List Notice) : Prop := q.station.notices = queueAfter p.station.notices
      ((if expired = true ∧ p.protection.enables.vessel = true then
        p.faultNotices ⟨.vessel, .switchTimeout, vesselIndex v, (machineIndex m : Nat), .unload, true⟩ else []) ++ more)
    (r.state = .loading ∨ r.state = .loaded) ∧ (b.cause = some .load ↔ r.state = .loading) ∧
    q.vessel v = given ∧ (q.slot (.vessel v)).order = some (.route .none) ∧ (∀ k, k ≠ m → q.mach k = p.mach k) ∧
    (∀ w, choice = some w → stands ∧ posts [] ∧
      q.binding m = { b with target := some w, cause := some (b.cause.getD .load), timer := some (1000 * p.switchLimit) } ∧
      (q.vessel w).use = .switchingIn m ∧ (q.slot (.vessel w)).order = some (.route (routeFor m)) ∧
      q.allocator.tree = treeUpdate p.allocator.tree w ∧ ∀ x, b.bound = some x → q.vessel x = p.vessel x) ∧
    (choice = none →
      (r.state = .loading → bypasses → posts [p.switchNotice m 8] ∧ q.binding m = { emptied with bypass := true } ∧
        (p.minPower m + p.othersOrdered m ≤ p.rateLimit (machineDir m) →
          q.mach m = { r with phase := ⟨some .load, p.minPower m, false⟩, setpoint := p.minPower m, loadPending := false } ∧
          (q.slot (.machine m)).order = some (.machine .load (p.minPower m))) ∧
        (p.rateLimit (machineDir m) < p.minPower m + p.othersOrdered m → q.mach m = { r with loadPending := true })) ∧
      (r.state = .loading → ¬ bypasses → q.binding m = emptied ∧
        (r.demand = .serve → posts [p.moveNotice m .loading .idle .noVessel] ∧
          q.mach m = { r with
            state := .idle, last := ⟨.loading, .idle, .noVessel, p.stamp⟩, loadPending := false, correcting := false }) ∧
        (r.demand = .none → (q.mach m).demand = .none ∧
          ((q.mach m).state = .idle ∧ posts [p.moveNotice m .loading .idle .noVessel] ∨
            (q.mach m).state = .stopping ∧ posts [p.moveNotice m .loading .idle .noVessel,
              p.moveNotice m .idle .stopping (q.mach m).last.cause]))) ∧
      (r.state = .loaded → b.cause = some .release → stands ∧ posts [] ∧ q.binding m = emptied ∧
        ∀ x, b.bound = some x → q.vessel x = { p.vessel x with use := boundUse m }) ∧
      (r.state = .loaded → b.cause = some .bypassExit → stands ∧ posts [] ∧ q.binding m = emptied) ∧
      (r.state = .loaded → b.cause ≠ some .release → b.cause ≠ some .bypassExit →
        (bypasses → stands ∧ posts [p.switchNotice m 8] ∧ (q.binding m).bypass = true ∧ (q.binding m).bound = none ∧
          ∀ x, b.bound = some x → (q.vessel x).use = .free ∨ ∃ k, (q.vessel x).use = .switchingIn k) ∧
        (¬ bypasses → posts [p.moveNotice m .loaded .unloading .heat] ∧
          (q.mach m).state = .unloading ∧ (q.mach m).last = ⟨.loaded, .unloading, .heat, p.stamp⟩ ∧
          (q.mach m).demand = r.demand ∧ (q.slot (.machine m)).order = some (.machine .unload 0) ∧
          q.binding m = { emptied with bypass := false } ∧
          ∀ x, b.bound = some x → q.vessel x = { p.vessel x with use := boundUse m }))))

/-- R67, R69: the walk reaches an eligible vessel exactly where there is one: at each node on its path it takes the subtree that the
bit points to where that subtree holds an eligible vessel, and the other one only where it holds none; an allocation sets the bits
on the path to point away from the vessel and no others, and the unoverridden walk then does not lead to it. R68, R66: the choice
for discharge is an eligible vessel of the greatest usable heat, the lowest index where it is shared; held vessels take part only
while no other is eligible and reserve deployment is above 0. R84, R94, R108: the machine of a direction that is chosen by EOH: the
lowest, and the lower index, to recall or else to start; the highest, and the higher index, to shed. R67, R66, R62, R59: the choice
for charging is the walk of the allocator's tree over the vessels eligible for charging; which vessels are eligible; the pooled
figures and the two heat flags; the heat and the room of one layer. -/
def Obligations.VesselAndMachineChoices : Prop :=
  ((∀ (t : Tree) (eligible : VesselId → Bool) (v : VesselId),
        (treeWalk t eligible = some v → eligible v = true) ∧
        (treeWalk t eligible = none → eligible v = false) ∧
        (treeWalk t eligible = some v →
          let holds (low high : Nat) : Prop := ∃ w, low ≤ vesselIndex w ∧ vesselIndex w < high ∧ eligible w = true
          let right (bit : Bool) (low half : Nat) : Prop :=
            if bit = true then holds (low + half) (low + 2 * half) else ¬ holds low (low + half)
          let i := vesselIndex v
          (4 ≤ i ↔ right t.b0 0 4) ∧ (i < 4 → (2 ≤ i ↔ right t.b1 0 2)) ∧ (4 ≤ i → (6 ≤ i ↔ right t.b2 4 2)) ∧
          (i / 2 = 0 → (i % 2 = 1 ↔ right t.b3 0 1)) ∧ (i / 2 = 1 → (i % 2 = 1 ↔ right t.b4 2 1)) ∧
          (i / 2 = 2 → (i % 2 = 1 ↔ right t.b5 4 1)) ∧ (i / 2 = 3 → (i % 2 = 1 ↔ right t.b6 6 1))) ∧
        treeWalk (treeUpdate t v) (fun _ => true) ≠ some v ∧
        (treeUpdate t v).b0 = decide (vesselIndex v < 4) ∧
        (treeUpdate t v).b1 = (if vesselIndex v < 4 then decide (vesselIndex v < 2) else t.b1) ∧
        (treeUpdate t v).b2 = (if vesselIndex v < 4 then t.b2 else decide (vesselIndex v < 6)) ∧
        (treeUpdate t v).b3 = (if vesselIndex v / 2 = 0 then decide (vesselIndex v % 2 = 0) else t.b3) ∧
        (treeUpdate t v).b4 = (if vesselIndex v / 2 = 1 then decide (vesselIndex v % 2 = 0) else t.b4) ∧
        (treeUpdate t v).b5 = (if vesselIndex v / 2 = 2 then decide (vesselIndex v % 2 = 0) else t.b5) ∧
        (treeUpdate t v).b6 = (if vesselIndex v / 2 = 3 then decide (vesselIndex v % 2 = 0) else t.b6)) ∧
    (∀ p : Ck4,
        (p.chooseDischarge = none → ∀ w, p.eligibleDischarge w = false) ∧
        (∀ v, p.chooseDischarge = some v → p.eligibleDischarge v = true ∧
          ∀ w, p.eligibleDischarge w = true → (p.vessel w).usable ≤ (p.vessel v).usable ∧
            ((p.vessel w).usable = (p.vessel v).usable → vesselIndex v ≤ vesselIndex w)) ∧
        (∀ w, p.eligibleDischarge w = true → (p.vessel w).held = true →
          p.allocator.reserve > 0 ∧ ∀ x, p.eligibleDischarge x = true → (p.vessel x).held = true))) ∧
  (∀ (p : Ck4) (v : VesselId),
      let free (w : VesselId) : Prop := (p.vessel w).reported = true ∧ (p.vessel w).condition = .normal ∧
        (p.vessel w).use = .free ∧ p.allocator.freeze = false
      let candidate (w : VesselId) : Prop := free w ∧ (p.vessel w).content ≠ .empty
      let counted (w : VesselId) : Prop := (p.vessel w).condition = .normal ∧ (p.vessel w).use ≠ .isolated
      let served (d : Dir) : Prop := ∃ m w, machineDir m = d ∧ ((p.vessel w).use = .charging m ∨
        (p.vessel w).use = .discharging m ∨ (p.vessel w).use = .switchingIn m)
      p.choose .charge = treeWalk p.allocator.tree p.eligibleCharge ∧ p.choose .discharge = p.chooseDischarge ∧
      (p.eligibleCharge v = true ↔ free v ∧ (p.vessel v).content ≠ .full) ∧
      (p.eligibleDischarge v = true ↔ candidate v ∧ ((p.vessel v).held = false ∨
        ((∀ w, candidate w → (p.vessel w).held = true) ∧ 0 < p.allocator.reserve))) ∧
      p.hFree = (allVessels.map fun w => if counted w ∧ (p.vessel w).held = false then (p.vessel w).usable else 0).sum ∧
      p.hHeld = (allVessels.map fun w => if counted w ∧ (p.vessel w).held = true then (p.vessel w).usable else 0).sum ∧
      p.hRoom = (allVessels.map fun w => if p.eligibleCharge w = true then (p.vessel w).room else 0).sum ∧
      (p.dischargeHeat = true ↔ (∃ w, p.eligibleDischarge w = true) ∨ served .discharge) ∧
      (p.chargeHeat = true ↔ (∃ w, p.eligibleCharge w = true) ∨ p.allocator.bypassPermitted = true ∨ served .charge)) ∧
  (∀ (c10 : Nat) (bound t : Int),
      layerHeat c10 bound t = (if bound < t then c10 * (t - bound).toNat / 100 else 0) ∧
      layerRoom c10 bound t = (if t < bound then c10 * (bound - t).toNat / 100 else 0)) ∧
  (∀ (p : Ck4) (d : Dir),
      let recallable (k : MachineId) : Prop := machineDir k = d ∧ (p.mach k).state = .idle ∧ (p.mach k).demand = .none
      let startable (k : MachineId) : Prop := machineDir k = d ∧ (p.mach k).state = .stopped ∧ p.mayStart k = true
      let leads (m k : MachineId) : Prop := p.eoh m ≤ p.eoh k ∧ (p.eoh k = p.eoh m → machineIndex m ≤ machineIndex k)
      (∀ m q, p.oneMore d = (some m, q) →
        (recallable m ∧ ∀ k, recallable k → leads m k) ∨
        (startable m ∧ (∀ k, ¬ recallable k) ∧ ∀ k, startable k → leads m k)) ∧
      (∀ q, p.oneMore d = (none, q) → q = p ∧ ∀ k, ¬ recallable k ∧ ¬ startable k) ∧
      (∀ m, p.shedCandidate d = some m → machineDir m = d ∧ (p.mach m).state = .loaded ∧
        ∀ k, machineDir k = d → (p.mach k).state = .loaded → p.eoh k ≤ p.eoh m ∧
          (p.eoh k = p.eoh m → machineIndex k ≤ machineIndex m)) ∧
      (p.shedCandidate d = none → ∀ k, machineDir k = d → (p.mach k).state ≠ .loaded) ∧
      (∀ m, p.eoh m = (p.mach m).counters.runSeconds + (p.mach m).counters.starts * p.startPenalty +
        (p.mach m).counters.trips * p.tripPenalty))

/-- R69, R70, R72, R75: a vessel allocated to a machine as its target, the answer to a machine that is to load, and a trigger. R73:
the release of a string from a held vessel; vessels that become eligible in one step, with no train in bypass: each unheld one is a
trigger, also where an earlier one took it, so one of them releases one string and two release both, E1 first (how they are found is
log entry 15). R76: the exit of a train from bypass. R77: what a machine's transition and a warm restart end (which of the two NONE
orders of a switchover abandoned is placed first is log entry 46, and nothing is stated of it). -/
def Obligations.BindingOperations : Prop :=
  (∀ (p : Ck4) (m : MachineId) (v : VesselId) (cause : SwitchCause), (p.binding m).bound ≠ some v →
    let q := p.allocate m v cause
    (∀ k, q.binding k = if k = m then
      { p.binding m with target := some v, cause := some cause, timer := some (1000 * p.switchLimit) } else p.binding k) ∧
    (∀ w, q.vessel w = if w = v then { p.vessel v with use := .switchingIn m }
      else if (p.binding m).bound = some w then { p.vessel w with use := .switchingOut m } else p.vessel w) ∧
    (q.slot (.vessel v)).order = some (.route (match machineDir m with | .charge => .charge m | .discharge => .discharge m)) ∧
    (q.slot (.vessel v)).status = .waiting ∧
    (q.slot (.vessel v)).sequence = some (if (p.slot (.vessel v)).lastGiven ≥ 255 then 1 else (p.slot (.vessel v)).lastGiven + 1) ∧
    q.allocator.tree = treeUpdate p.allocator.tree v ∧ q.sequencer = p.sequencer ∧ q.protection = p.protection) ∧
  (∀ (p : Ck4) (m : MachineId),
    let switched (old new : Nat) (q : Ck4) : Ck4 := q.post .vesselSwitched (machineIndex m) (16 * old + new : Nat)
    (∀ v, p.choose (machineDir m) = some v → p.requestVessel m = (.target, p.allocate m v .load)) ∧
    (p.choose (machineDir m) = none → machineDir m = .charge → p.allocator.bypassPermitted = true → (p.binding m).bound = none →
      (p.binding m).bypass = false →
      p.requestVessel m = (.bypass, switched 15 8 (p.setBinding m { p.binding m with bypass := true }))) ∧
    (p.choose (machineDir m) = none → machineDir m = .discharge ∨ p.allocator.bypassPermitted = false →
      p.requestVessel m = (.noVessel, p)) ∧
    (∀ cause, (p.mach m).state ≠ .loaded ∨ (p.binding m).target.isSome = true → p.switchover m cause = p) ∧
    (∀ cause v, (p.mach m).state = .loaded → (p.binding m).target = none → p.choose (machineDir m) = some v →
      p.switchover m cause = p.allocate m v cause) ∧
    (∀ cause, (p.mach m).state = .loaded → (p.binding m).target = none → p.choose (machineDir m) = none →
      let q := p.switchover m cause
      (machineDir m = .discharge ∨ p.allocator.bypassPermitted = false →
        (q.mach m).state = .unloading ∧ (q.mach m).last = ⟨.loaded, .unloading, .heat, p.stamp⟩ ∧
        (q.mach m).demand = (p.mach m).demand ∧ (q.binding m).bound = (p.binding m).bound ∧
        ∀ v, (p.binding m).bound = some v → (q.vessel v).use = boundUse m) ∧
      (machineDir m = .charge → p.allocator.bypassPermitted = true →
        (q.mach m).state = .loaded ∧ (q.binding m).bypass = true ∧ (q.binding m).bound = none ∧
        q.station.notices = queueAfter p.station.notices [p.switchNotice m 8]))) ∧
  (∀ p : Ck4,
    let wants (m : MachineId) : Prop := (p.mach m).state = .loaded ∧ (p.binding m).target = none ∧
      ∃ v, (p.binding m).bound = some v ∧ (p.vessel v).use = .discharging m ∧ (p.vessel v).held = true
    (∀ v, p.chooseDischarge = some v → wants .e1 → p.releaseHeld = p.allocate .e1 v .release) ∧
    (∀ v, p.chooseDischarge = some v → ¬ wants .e1 → wants .e2 → p.releaseHeld = p.allocate .e2 v .release) ∧
    (p.chooseDischarge = none ∨ (¬ wants .e1 ∧ ¬ wants .e2) → p.releaseHeld = p) ∧
    (∀ z, let q : Ck4 := { p with allocator := { p.allocator with reserve := z } }
      (0 < p.allocator.reserve → z ≤ 0 → q.unheldEligible = true → p.takeReserve z = q.releaseHeld) ∧
      (p.allocator.reserve ≤ 0 ∨ 0 < z ∨ q.unheldEligible = false → p.takeReserve z = q)) ∧
    (∀ before : Ck4,
      let fresh (v : VesselId) : Prop := before.eligibleDischarge v = false ∧ p.eligibleDischarge v = true
      ((∀ v, ¬ fresh v) → (∀ v, p.eligibleCharge v = true → before.eligibleCharge v = true) → Ck4.takeEligible before p = p) ∧
      (0 < p.allocator.reserve → (∀ m, (p.binding m).bypass = false) → Ck4.takeEligible before p = p) ∧
      (p.allocator.reserve ≤ 0 → (∀ m, (p.binding m).bypass = false) → ∀ v, fresh v →
        ((∀ w, fresh w → w = v) → Ck4.takeEligible before p = p.releaseHeld) ∧
        (∀ w, fresh w → w ≠ v → wants .e1 → wants .e2 → ∃ x y, p.chooseDischarge = some x ∧
          (p.allocate .e1 x .release).chooseDischarge = some y ∧
          Ck4.takeEligible before p = (p.allocate .e1 x .release).allocate .e2 y .release))) ∧
    (∀ m, (p.mach m).state ≠ .loaded ∨ (p.binding m).bypass = false ∨ (p.binding m).target.isSome = true ∨
      p.chooseCharge = none → p.exitBypass m = p) ∧
    (∀ m v, (p.mach m).state = .loaded → (p.binding m).bypass = true → (p.binding m).target = none →
      p.chooseCharge = some v → p.exitBypass m = p.allocate m v .bypassExit)) ∧
  (∀ (p : Ck4) (m : MachineId) (old new : MachineState), old ≠ new → p.bindingsOk = true → (p.mach m).state = old →
    let b := p.binding m
    let q := p.endBindings m old new
    let freed (v : VesselId) : Prop := (q.vessel v).use = .free ∧ (q.slot (.vessel v)).order = some (.route .none)
    (∀ v, old = .loading → new ≠ .loaded → b.target = some v → freed v ∧ (q.binding m).target = none ∧ (q.binding m).timer = none) ∧
    (∀ v, old = .loaded → b.target = some v → freed v ∧ (q.binding m).target = none ∧ (q.binding m).timer = none ∧
      (q.binding m).bound = none ∧ (q.binding m).bypass = false ∧ ∀ w, b.bound = some w → freed w) ∧
    (old = .loaded ∨ (old = .loading ∧ new ≠ .loaded) → (q.binding m).bypass = false) ∧
    (∀ v, new = .tripped → b.target = none → b.bound = some v →
      (q.binding m).bound = some v ∧ (q.vessel v).use = boundUse m) ∧
    (∀ v, new = .idle ∨ new = .stopped ∨ new = .lockedOut → b.bound = some v → freed v ∧ (q.binding m).bound = none) ∧
    (old = .loading → new = .loaded → q = p) ∧
    (∀ k, k ≠ m → q.binding k = p.binding k) ∧
    (∀ v, b.bound ≠ some v → b.target ≠ some v → q.vessel v = p.vessel v)) ∧
  (∀ (p : Ck4) (m : MachineId), p.bindingsOk = true →
    let b := p.binding m
    let q := p.restartBinding m
    q.binding m = { b with target := none, cause := none, timer := none } ∧
    (∀ v, b.target = some v → (q.vessel v).use = .free ∧ (q.slot (.vessel v)).order = some (.route .none)) ∧
    (∀ v, b.bound = some v → (q.vessel v).use = boundUse m) ∧
    (∀ v, b.bound ≠ some v → b.target ≠ some v → q.vessel v = p.vessel v) ∧ q.sequencer = p.sequencer)

/-! ### Machines and trips -/

/-- R100 ReleaseLockout, R86 the start timer in STARTING, R93 the linger timer in IDLE: the states in which alone they run
(`ShutdownMachinesInvariant`). An expiry of a timer that does not run does nothing (log entry 29), and one of a timer that runs is
taken whatever time it still shows (the model's choice, log entry 3). Each with the notices it posts (R106, R140). -/
def Obligations.ReleaseAndMachineTimers : Prop :=
  ∀ s : State,
    (s.served →
      (∀ n, n > 4 → exec (.releaseLockout n) s = .next (s.answered ⟨.argRange, .none⟩ s.part)) ∧
      (∀ m, (s.part.mach m).state ≠ .lockedOut →
        exec (.releaseLockout (machineIndex m)) s = .next (s.answered ⟨.ok, .machineState (s.part.mach m).state⟩ s.part)) ∧
      (∀ m, (s.part.mach m).state = .lockedOut →
        s.part.activeOrUnknown (.trip m) = true ∨ s.part.activeOrUnknown .estop = true ∨
          (s.part.mach m).report ≠ some .stopped →
        exec (.releaseLockout (machineIndex m)) s = .next (s.answered ⟨.lockedOut, .none⟩ s.part)) ∧
      (∀ m, (s.part.mach m).state = .lockedOut → s.part.activeOrUnknown (.trip m) = false →
        s.part.activeOrUnknown .estop = false → (s.part.mach m).report = some .stopped →
        ∃ t : State, exec (.releaseLockout (machineIndex m)) s = .next t ∧ t.pending = s.pending ∧
          t.part.station.answer = some ⟨.ok, .machineState .stopped⟩ ∧
          t.part.mach m = { s.part.mach m with
            state := .stopped, last := ⟨.lockedOut, .stopped, .lockoutReleased, s.part.stamp⟩
            phase := ⟨some .stop, 0, false⟩, setpoint := 0, correcting := false, lockoutPending := false
            stoppedSinceTrip := false, acknowledged := false } ∧
          (∀ k, k ≠ m → t.part.mach k = s.part.mach k) ∧ (t.part.slot (.machine m)).order = some (.machine .stop 0) ∧
          t.part.station.notices = queueAfter s.part.station.notices [s.part.moveNotice m .lockedOut .stopped .lockoutReleased] ∧
          t.part.protection = s.part.protection ∧ t.part.time = s.part.time)) ∧
    (∀ m, (s.part.mach m).startTimer = none → exec (.startTimerExpired m) s = .next (s.ended s.part)) ∧
    (∀ m, (s.part.mach m).startTimer.isSome = true → (s.part.mach m).state = .starting →
      s.part.protection.enables.machC = true → s.part.protection.enables.machE = true →
      ∃ t : State, exec (.startTimerExpired m) s = .next t ∧ t.pending = s.pending ∧
        t.part.mach m = { s.part.mach m with
          state := .tripped, last := ⟨.starting, .tripped, .trip, s.part.stamp⟩, demand := .none
          phase := ⟨some .trip, 0, false⟩, setpoint := 0, startTimer := none, startFailed := true, lingerTimer := none
          loadPending := false, correcting := false, controllerTripHanded := false, stoppedSinceTrip := false
          acknowledged := false, lockoutPending := true
          counters := { (s.part.mach m).counters with trips := min 4294967295 ((s.part.mach m).counters.trips + 1) } } ∧
        (∀ k, k ≠ m → t.part.mach k = s.part.mach k) ∧
        t.part.station.notices = queueAfter s.part.station.notices (s.part.faultNotices ⟨
          match machineDir m with | .charge => .machC | .discharge => .machE, .startFail, machineIndex m, (s.part.startLimit m : Nat),
          .machine, false⟩ ++ [s.part.moveNotice m .starting .tripped .trip]) ∧
        t.part.protection.tripInProgress = s.part.protection.tripInProgress ∧ t.part.mode = s.part.mode) ∧
    (∀ m, (s.part.mach m).lingerTimer = none → exec (.lingerExpired m) s = .next (s.ended s.part)) ∧
    (∀ m, (s.part.mach m).lingerTimer.isSome = true → (s.part.mach m).state = .idle →
      ∃ t : State, exec (.lingerExpired m) s = .next t ∧ t.pending = s.pending ∧
        t.part.mach m = { s.part.mach m with
          state := .stopping, last := ⟨.idle, .stopping, .linger, s.part.stamp⟩, phase := ⟨some .stop, 0, false⟩
          setpoint := 0, lingerTimer := none, correcting := false } ∧
        t.part.station.notices = queueAfter s.part.station.notices [s.part.moveNotice m .idle .stopping .linger] ∧
        (∀ k, k ≠ m → t.part.mach k = s.part.mach k) ∧ t.part.protection = s.part.protection)

/-- R150 AckTrip and R151 ClearShutdown, with the notices they post: TRIP_ENDED with subject 0 or 1 and the last trip origin, and
after it the transitions of the machines acknowledged (R99, R106), in index order (log entry 40). -/
def Obligations.AckAndClearShutdownResults : Prop :=
  ∀ s : State, s.served →
    (s.part.protection.tripInProgress = true →
      (∃ m, (s.part.mach m).state ≠ .stopped ∧ (s.part.mach m).state ≠ .tripped ∧ (s.part.mach m).state ≠ .lockedOut) →
      exec .ackTrip s = .next (s.answered ⟨.busy, .none⟩ s.part)) ∧
    (s.part.protection.tripInProgress = false ∨
        (∀ m, (s.part.mach m).state = .stopped ∨ (s.part.mach m).state = .tripped ∨ (s.part.mach m).state = .lockedOut) →
      ∃ t : State, exec .ackTrip s = .next t ∧ t.pending = s.pending ∧
        t.part.station.answer = some ⟨.ok, .acknowledged false (t.part.countIn .tripped) (t.part.countIn .lockedOut)⟩ ∧
        t.part.protection = { s.part.protection with tripInProgress := false } ∧ t.part.mode = s.part.mode ∧
        t.part.station.notices = queueAfter s.part.station.notices
          ((if s.part.protection.tripInProgress = true then
            [⟨.tripEnded, s.part.stamp, 0, (s.part.protection.lastTripOrigin.getD 0 : Nat)⟩] else []) ++
          (allMachines.filter fun m => (s.part.mach m).state = .tripped ∧ (s.part.mach m).stoppedSinceTrip = true ∧
            (s.part.mach m).lockoutPending = false).map (s.part.moveNotice · .tripped .stopped .tripAck)) ∧
        ∀ m, ((s.part.mach m).state ≠ .tripped → (t.part.mach m).state = (s.part.mach m).state) ∧
          ((s.part.mach m).state = .tripped →
            (t.part.mach m).state = (if (s.part.mach m).stoppedSinceTrip = true ∧ (s.part.mach m).lockoutPending = false then
              .stopped else .tripped) ∧
            ((t.part.mach m).state = .tripped → (t.part.mach m).acknowledged = true))) ∧
    (s.part.protection.shutdown = false → exec .clearShutdown s = .next (s.answered ⟨.wrongMode, .none⟩ s.part)) ∧
    (s.part.protection.shutdown = true → s.part.activeOrUnknown .estop = true →
      exec .clearShutdown s = .next (s.answered ⟨.busy, .condition 1⟩ s.part)) ∧
    (s.part.protection.shutdown = true → s.part.activeOrUnknown .estop = false →
      (∃ m, (s.part.mach m).state ≠ .stopped ∧ (s.part.mach m).state ≠ .lockedOut) →
      exec .clearShutdown s = .next (s.answered ⟨.busy, .condition 2⟩ s.part)) ∧
    (s.part.protection.shutdown = true → s.part.activeOrUnknown .estop = false →
      (∀ m, (s.part.mach m).state = .stopped ∨ (s.part.mach m).state = .lockedOut) →
      ∃ t : State, exec .clearShutdown s = .next t ∧ t.pending = s.pending ∧
        t.part.mode = (if s.part.allGood = true then .standby else .unconfigured) ∧
        t.part.station.answer = some ⟨.ok, .mode t.part.mode⟩ ∧
        t.part.protection = { s.part.protection with shutdown := false, tripInProgress := false } ∧
        t.part.station.notices = queueAfter s.part.station.notices (if s.part.protection.tripInProgress = true then
          [⟨.tripEnded, s.part.stamp, 1, (s.part.protection.lastTripOrigin.getD 0 : Nat)⟩] else []) ∧
        (∀ m, (t.part.mach m).state = (s.part.mach m).state) ∧ t.part.time = s.part.time ∧
        t.part.schedule = s.part.schedule ∧ t.part.inventory = s.part.inventory)

/-- R153 ClearFaults and R138 SetGroupEnable. The two values that R200 refuses stand in `FrameRequests`, the answer in UNCONFIGURED
in `ReadsAndUnconfiguredRequests`. -/
def Obligations.ClearFaultsAndGroupEnable : Prop :=
  (∀ (n : Nat) (s : State), s.served →
      ((∀ r ∈ s.part.protection.table, r.sequence ≠ n) →
        exec (.clearFaults 0 n) s = .next (s.answered ⟨.argRange, .none⟩ s.part)) ∧
      (∀ older r newer, s.part.protection.table = older ++ r :: newer → r.sequence = n → (∀ x ∈ older, x.sequence ≠ n) →
        exec (.clearFaults 0 n) s = .next (s.answered ⟨.ok, .faultsLeft (older.length + newer.length)⟩
          { s.part with protection := { s.part.protection with
              table := older ++ newer
              overflow := s.part.protection.overflow && decide (0 < older.length + newer.length) } })) ∧
      exec (.clearFaults 1 n) s = .next (s.answered ⟨.ok, .faultsLeft 0⟩
        { s.part with protection := { s.part.protection with table := [], overflow := false } })) ∧
  (∀ (group value : Nat) (s : State), s.served →
      (group > 5 ∨ group = 0 ∨ group = 1 ∨ group = 3 →
        exec (.setGroupEnable group value) s = .next (s.answered ⟨.argRange, .none⟩ s.part)) ∧
      (group = 2 ∨ group = 4 ∨ group = 5 → value ≤ 1 → s.part.mode ≠ .standby →
        exec (.setGroupEnable group value) s = .next (s.answered ⟨.wrongMode, .none⟩ s.part)) ∧
      (value ≤ 1 → s.part.mode = .standby →
        exec (.setGroupEnable 2 value) s = .next (s.answered ⟨.ok, .none⟩ { s.part with protection :=
          { s.part.protection with enables := { s.part.protection.enables with vessel := decide (value = 1) } } }) ∧
        exec (.setGroupEnable 4 value) s = .next (s.answered ⟨.ok, .none⟩ { s.part with protection :=
          { s.part.protection with enables := { s.part.protection.enables with port := decide (value = 1) } } }) ∧
        exec (.setGroupEnable 5 value) s = .next (s.answered ⟨.ok, .none⟩ { s.part with protection :=
          { s.part.protection with enables := { s.part.protection.enables with lines := decide (value = 1) } } })))

/-- R163 to R166, R142, R145, R146, R97: the emergency stop becomes active. A trip begins, or escalates to SHUTDOWN where one is in
progress; no machine is left running, and each is locked out or will be. FAULT_RECORDED, TRIP_BEGUN or SHUTDOWN, and the
MACHINE_STATE of each machine are posted in that order. R137, R139, R140: how any fault of an enabled group is numbered, recorded
and posted; one of a disabled group does nothing. -/
def Obligations.EmergencyStopTrips : Prop :=
  (([.startFail, .controllerTripped, .unexpectedState, .sensor, .switchTimeout, .totaliser, .tempRange, .discrepancy, .lost,
      .orderUnconfirmed, .estop, .gridLoss, .tripLine, .breakerOpened, .cavernHigh, .cavernLow] : List Reason).map reasonCode =
      [1, 2, 3, 16, 17, 32, 33, 34, 48, 49, 64, 65, 66, 67, 68, 69] ∧
    ([.machC, .machE, .vessel, .cavern, .port, .lines] : List Group).map groupCode = List.range 6 ∧
    ([.warn, .unload, .machine, .direction, .plant] : List Severity).map severityCode = List.range 5) ∧
  (∀ (p : Ck4) (f : FaultReport),
    let on := p.protection.enables.get f.group
    let room : Prop := p.protection.table.length < 16
    (on = false → p.takeFault f = p ∧ p.recordFault f = p) ∧
    (on = true → p.recordFault f = { p with
      protection := { p.protection with
        nextSequence := if p.protection.nextSequence ≥ 65535 then 0 else p.protection.nextSequence + 1
        table := if room then p.protection.table ++ [⟨p.protection.nextSequence, p.stamp, f⟩] else p.protection.table
        overflow := p.protection.overflow || decide (¬ room) }
      station := if room then (p.post .faultRecorded f.subject (65536 * p.protection.nextSequence + 256 * reasonCode f.reason +
        16 * groupCode f.group + severityCode f.severity : Nat)).station else p.station }) ∧
    (f.severity = .warn → p.takeFault f = p.recordFault f)) ∧
  ∀ (line : Fin 16) (level : Level) (s : State),
    s.part.lines.inputs.length = 16 → (s.part.input line.val).function = .estop →
    (s.part.input line.val).qualified.isSome = true → (s.part.input line.val).qualified ≠ some level →
    levelActive (s.part.input line.val).polarity level = true → s.part.protection.enables.lines = true →
    ∃ t : State, exec (.inputQualifiedChange line level) s = .next t ∧ t.pending = s.pending ∧
      (t.part.input line.val).qualified = some level ∧
      (∀ m, (t.part.mach m).state = .lockedOut ∨
        ((t.part.mach m).state = .tripped ∧ (t.part.mach m).lockoutPending = true ∧ (t.part.mach m).acknowledged = false)) ∧
      (∀ m, (s.part.mach m).state ≠ .lockedOut → (s.part.mach m).state ≠ .tripped →
        (t.part.mach m).state = .tripped ∧ (t.part.mach m).demand = .none) ∧
      t.part.protection.tripInProgress = true ∧
      t.part.protection.nextSequence = succ16 s.part.protection.nextSequence ∧
      (s.part.protection.tripInProgress = false → t.part.mode = s.part.mode ∧
        t.part.protection.shutdown = s.part.protection.shutdown ∧
        t.part.protection.lastTripOrigin = some s.part.protection.nextSequence) ∧
      (s.part.protection.tripInProgress = true → t.part.protection.shutdown = true ∧
        t.part.protection.lastTripOrigin = s.part.protection.lastTripOrigin ∧
        (s.part.protection.shutdown = false → t.part.mode = .shutdown)) ∧
      (let fault : FaultReport := ⟨.lines, .estop, line.val, 0, .plant, false⟩
       t.part.station.notices = queueAfter s.part.station.notices
         (s.part.faultNotices fault ++ s.part.plantNotices fault ++ allMachines.flatMap (s.part.tripNotices false))) ∧
      t.part.schedule = s.part.schedule ∧ t.part.inventory = s.part.inventory ∧ t.part.time = s.part.time

/-! ### Station link -/

/-- R190 FetchNotices and R191 SetAttentionMask. R189: a notice is added while the queue has room for an OVERFLOW after it; one
that finds 31 becomes OVERFLOW, which names its kind and counts; the next ones are counted and discarded. -/
def Obligations.NoticesAndAttention : Prop :=
  (∀ s : State, s.served →
      (∀ n, n = 0 ∨ n > 8 → exec (.fetchNotices n) s = .next (s.answered ⟨.argRange, .none⟩ s.part)) ∧
      (∀ n, 1 ≤ n → n ≤ 8 →
        exec (.fetchNotices n) s = .next (s.answered
          ⟨.ok, .notices (min n s.part.station.notices.length) (s.part.station.notices.length - n)
            (s.part.station.notices.take n)⟩
          { s.part with station := { s.part.station with
              notices := s.part.station.notices.drop n
              attentionPending := s.part.station.attentionPending && decide (n < s.part.station.notices.length) } })) ∧
      (∀ n, n > 1 → exec (.setAttentionMask n) s = .next (s.answered ⟨.argRange, .none⟩ s.part)) ∧
      (∀ n, n ≤ 1 → exec (.setAttentionMask n) s = .next (s.answered
        ⟨.ok, .attention (decide (n = 0)) s.part.station.attentionPending s.part.station.notices.length⟩
        { s.part with station := { s.part.station with masked := decide (n = 0) } }))) ∧
  (∀ (p : Ck4) (k : NoticeKind) (subject : Nat) (value : Int),
      (p.station.notices = [] → (p.post k subject value).station.notices = [⟨k, p.stamp, subject, value⟩] ∧
        (p.post k subject value).station.attentionPending = true) ∧
      (∀ before last, p.station.notices = before ++ [last] → last.kind = .overflow →
        (p.post k subject value).station.notices = before ++ [{ last with value := min 4294967295 (last.value + 1) }]) ∧
      (∀ before last, p.station.notices = before ++ [last] → last.kind ≠ .overflow →
        (p.station.notices.length ≤ 30 →
          (p.post k subject value).station.notices = p.station.notices ++ [⟨k, p.stamp, subject, value⟩]) ∧
        (p.station.notices.length = 31 →
          (p.post k subject value).station.notices = p.station.notices ++ [⟨.overflow, p.stamp, noticeCode k, 1⟩])) ∧
      (p.post k subject value) = { p with station := { p.station with
        notices := (p.post k subject value).station.notices
        attentionPending := (p.post k subject value).station.attentionPending } })

/-- R186, R187: a request frame: discarded, queued behind others, answered BUSY, or dropped while a BUSY reply waits.
`FrameRequests` says how the head request is read and answered. R188: the end of the head request's reply, after which the next
request is taken, or the restart that was asked for; and the end of the BUSY reply. The model's choices: the end of a reply that is
not running does nothing (log entry 29), and no request is taken while a restart has been asked for (log entry 31). -/
def Obligations.StationFramesAndReplies : Prop :=
  ∀ (kind tag : Byte) (payload : List Byte) (s : State), payload.length ≤ 480 →
    let idle : StationLink := { s.part.station with phase := .hunt, inProgress := none, lastByte := none }
    (kind.toNat = 0 ∨ kind.toNat ≥ 0x40 →
      exec (.stationFrameReceived kind tag payload) s = .next (s.ended { s.part with station := idle })) ∧
    (kind.toNat ≠ 0 → kind.toNat < 0x40 →
      (s.part.station.queue.length < 4 → s.part.station.headReply.isSome = true →
        exec (.stationFrameReceived kind tag payload) s = .next (s.ended { s.part with
          station := { idle with queue := s.part.station.queue ++ [⟨kind, tag, payload⟩] } })) ∧
      (s.part.station.queue = [] → s.part.station.headReply = none → s.part.station.restartAsked = false →
        let q : Ck4 := { s.part with station := { idle with queue := [⟨kind, tag, payload⟩] } }
        let r := q.serveFrame ⟨kind, tag, payload⟩
        exec (.stationFrameReceived kind tag payload) s = .next (s.ended { r.2.record r.1 with
          station := { (r.2.record r.1).station with headReply := some ⟨kind + 0x80#8, tag, r.1⟩ } })) ∧
      (s.part.station.queue.length ≥ 4 → s.part.station.busyReply = none →
        exec (.stationFrameReceived kind tag payload) s = .next (s.ended { s.part with
          station := { idle with busyReply := some ⟨kind + 0x80#8, tag, ⟨.busy, .none⟩⟩ } })) ∧
      (s.part.station.queue.length ≥ 4 → s.part.station.busyReply.isSome = true →
        exec (.stationFrameReceived kind tag payload) s = .next (s.ended { s.part with station := idle }))) ∧
    (s.part.station.tx ≠ .reply → exec .replySent s = .next (s.ended s.part)) ∧
    (s.part.station.tx = .reply →
      let left : StationLink := { s.part.station with
        queue := s.part.station.queue.drop 1, headReply := none, tx := .idle, sending := none }
      (s.part.station.restartAsked = true →
        exec .replySent s = .next (s.ended (Ck4.warmRestart { s.part with station := left }))) ∧
      (s.part.station.restartAsked = false → s.part.station.queue.length ≤ 1 →
        exec .replySent s = .next (s.ended { s.part with station := left })) ∧
      (∀ head next rest, s.part.station.restartAsked = false → s.part.station.queue = head :: next :: rest →
        let r := Ck4.serveFrame { s.part with station := left } next
        exec .replySent s = .next (s.ended { r.2.record r.1 with
          station := { (r.2.record r.1).station with headReply := some ⟨next.kind + 0x80#8, next.tag, r.1⟩ } }))) ∧
    (s.part.station.tx ≠ .busy → exec .busyReplySent s = .next (s.ended s.part)) ∧
    (s.part.station.tx = .busy →
      exec .busyReplySent s = .next (s.ended { s.part with
        station := { s.part.station with busyReply := none, tx := .idle, sending := none } }))

/-- R187, R199, R200: how the head request is read from its frame and checked. Kind by kind: the payload length that the request's
form allows, any other being answered BAD_LENGTH, and the request that its bytes spell, low byte first, which is answered and taken
as the command of that request is; a kind that names no request is answered UNKNOWN_KIND. Neither refusal changes anything. A
ClearFaults selector and a SetGroupEnable value above 1 are refused with ARG_RANGE (R200); that such a SetGroupEnable is answered so
also outside STANDBY is the model's choice (log entry 48). An offered record is twelve bytes: status, flags (bit 1: a trade
reference is present), power, up band, down band, trade reference. In UNCONFIGURED the commands answer NOT_CONFIGURED
(`ReadsAndUnconfiguredRequests`). -/
def Obligations.FrameRequests : Prop :=
  (∀ (sel n group value : Nat) (s : State), s.served →
    (sel > 1 → exec (.clearFaults sel n) s = .next (s.answered ⟨.argRange, .none⟩ s.part)) ∧
    (value > 1 → exec (.setGroupEnable group value) s = .next (s.answered ⟨.argRange, .none⟩ s.part))) ∧
  ∀ (kind tag : Byte) (x : List Byte) (s : State),
    let r := s.part.serveFrame ⟨kind, tag, x⟩
    let n := x.length
    let b (i : Nat) : Nat := (x.getD i 0).toNat
    let w (i : Nat) : Nat := b i + 256 * b (i + 1)
    let d (i : Nat) : Nat := w i + 65536 * w (i + 2)
    let z (i : Nat) : Int := if w i < 32768 then w i else w i - 65536
    let offers (i count : Nat) : List OfferedRecord := (List.range count).map fun k =>
      { status := b (i + 12 * k), power := z (i + 12 * k + 2), up := w (i + 12 * k + 4), down := w (i + 12 * k + 6)
        reference := if (b (i + 12 * k + 1)).testBit 1 then some (d (i + 12 * k + 8)) else none }
    let values : List Int := (List.range ((n - 1) / 4)).map fun k =>
      if d (1 + 4 * k) < 2147483648 then (d (1 + 4 * k) : Int) else d (1 + 4 * k) - 4294967296
    let refused (status : Status) : Prop := r = (⟨status, .none⟩, s.part)
    let acts (k : Byte) (good : Prop) (c : Instr) : Prop := kind = k →
      (good → exec c s = .next (s.answered r.1 r.2)) ∧ (¬ good → refused .badLength)
    let reads (k : Byte) (good : Prop) (c : Instr) : Prop := kind = k →
      (good → exec c s = .next (s.told r.1) ∧ r.2 = s.part) ∧ (¬ good → refused .badLength)
    reads 0x01 (n = 0) .identify ∧ reads 0x02 (n = 0) .readStatus ∧ acts 0x03 (n = 1) (.setMode (b 0)) ∧
    acts 0x04 (1 ≤ n ∧ (b 0 ≤ 6 → n = 1 + 4 * [10, 4, 21, 13, 4, 84, 64].getD (b 0) 0)) (.loadConstants (b 0) values) ∧
    reads 0x05 (n = 1) (.readConstants (b 0)) ∧ acts 0x06 (n = 0) .restart ∧
    acts 0x08 (n = 8) (.setTime (w 0) (d 2) (w 6)) ∧ reads 0x09 (n = 0) .readTime ∧
    acts 0x10 (4 ≤ n ∧ n = 4 + 12 * b 3) (.writeIntervals (w 0) (b 2) (b 3) (offers 4 (b 3))) ∧
    reads 0x11 (n = 3) (.readIntervals (w 0) (b 2)) ∧ acts 0x12 (n = 2) (.beginDayLoad (w 0)) ∧
    acts 0x13 (2 ≤ n ∧ n = 2 + 12 * b 1) (.stageIntervals (b 0) (b 1) (offers 2 (b 1))) ∧
    acts 0x14 (n = 0) .commitDayLoad ∧ acts 0x15 (n = 0) .cancelDayLoad ∧
    acts 0x16 (n = 8) (.setWindow (b 0) (b 2) (b 3) (b 4) (b 5) (z 6)) ∧ acts 0x17 (n = 1) (.clearWindow (b 0)) ∧
    reads 0x18 (n = 0) .readWindows ∧ acts 0x1A (n = 2) (.setManualTarget (z 0)) ∧ acts 0x1B (n = 1) (.setRampGear (b 0)) ∧
    reads 0x1C (n = 0) .readSettlements ∧ reads 0x1D (n = 0) .readDispatch ∧ reads 0x1E (n = 0) .readInventory ∧
    acts 0x20 (n = 1) (.setHold (b 0)) ∧ acts 0x21 (n = 1) (.setFreeze (b 0)) ∧ acts 0x22 (n = 1) (.setBypass (b 0)) ∧
    acts 0x23 (n = 1) (.isolateVessel (b 0)) ∧ acts 0x24 (n = 1) (.restoreVessel (b 0)) ∧ reads 0x25 (n = 0) .readVessels ∧
    reads 0x28 (n = 0) .readMachines ∧ reads 0x29 (n = 0) .readCounters ∧ acts 0x2A (n = 1) (.releaseLockout (b 0)) ∧
    acts 0x30 (n = 0) .ackTrip ∧ acts 0x31 (n = 0) .clearShutdown ∧ reads 0x32 (n = 0) .readFaults ∧
    acts 0x33 (n = 3) (.clearFaults (b 0) (w 1)) ∧ acts 0x34 (n = 2) (.setGroupEnable (b 0) (b 1)) ∧
    acts 0x38 (n = 1) (.fetchNotices (b 0)) ∧ acts 0x39 (n = 1) (.setAttentionMask (b 0)) ∧ reads 0x3A (n = 0) .readLines ∧
    reads 0x3B (n = 1) (.readSources (b 0)) ∧
    (kind ∉ ([0x01, 0x02, 0x03, 0x04, 0x05, 0x06, 0x08, 0x09, 0x10, 0x11, 0x12, 0x13, 0x14, 0x15, 0x16, 0x17, 0x18, 0x1A, 0x1B,
      0x1C, 0x1D, 0x1E, 0x20, 0x21, 0x22, 0x23, 0x24, 0x25, 0x28, 0x29, 0x2A, 0x30, 0x31, 0x32, 0x33, 0x34, 0x38, 0x39, 0x3A,
      0x3B] : List Byte) → refused .unknownKind)

/-- R197, R187, R199, R200: a reply frame has its sync, its length, a good CRC and a payload that opens with the status byte, and is
never longer than its payload of 480 bytes allows. 12.3: the sizes and fields of the records that replies repeat; a free window is
eight bytes 0, and an absent field is 0 with its present bit clear. What chapter 12 does not lay out is free (log entry 12), and so
is an energy that its field of a settlement record cannot hold, of which nothing is stated (log entry 45). -/
def Obligations.ReplyBytes : Prop :=
  (∀ r : Reply,
    r.bytes.take 2 = [0xD3#8, 0x1C#8] ∧ frameGood (r.bytes.drop 2) = true ∧
    field r.bytes 2 2 = r.answer.payload.length ∧ r.answer.payload.length ≤ 480 ∧
    r.bytes.getD 4 0 = r.kind ∧ r.bytes.getD 5 0 = r.tag ∧ (r.bytes.drop 6).take r.answer.payload.length = r.answer.payload ∧
    r.bytes.length = r.answer.payload.length + 8 ∧ r.answer.payload.getD 0 0 = BitVec.ofNat 8 (statusCode r.answer.status)) ∧
  (∀ status, (Answer.payload ⟨status, .none⟩) = [BitVec.ofNat 8 (statusCode status)]) ∧
  (∀ mode, (Answer.payload ⟨.ok, .mode mode⟩) = [0#8, BitVec.ofNat 8 (modeCode mode)]) ∧
  (∀ s : State, ∃ r rest, exec .readStatus s = .next (s.told ⟨.ok, .status r⟩) ∧
    (Answer.payload ⟨.ok, .status r⟩).take 2 = [0#8, BitVec.ofNat 8 (modeCode s.part.mode)] ∧
    (Content.status r).bytes = BitVec.ofNat 8 (modeCode s.part.mode) :: rest) ∧
  (∀ r : IntervalRecord, let b := intervalBytes r
    b.length = 12 ∧ field b 0 1 = intervalStatusCode r.status ∧
    field b 1 1 = (if r.committed then 1 else 0) + (if r.reference.isSome then 2 else 0) ∧
    (-32768 ≤ r.power → r.power ≤ 32767 → signedField b 2 2 = r.power) ∧
    (r.up ≤ 65535 → field b 4 2 = r.up) ∧ (r.down ≤ 65535 → field b 6 2 = r.down) ∧
    (r.reference = none → field b 8 4 = 0) ∧ (∀ n, r.reference = some n → n ≤ 4294967295 → field b 8 4 = n)) ∧
  (∀ r : IntervalReading, let b := returnedIntervalBytes r
    b.length = 15 ∧ (r.index ≤ 255 → field b 0 1 = r.index) ∧ (b.drop 1).take 12 = intervalBytes r.record ∧
    (-32768 ≤ r.resolved → r.resolved ≤ 32767 → signedField b 13 2 = r.resolved)) ∧
  (∀ (i : Nat) (w : Window), let b := windowBytes i w
    b.length = 8 ∧ (w.inUse = false → b = List.replicate 8 0#8) ∧
    (w.inUse = true → i ≤ 255 → w.mask ≤ 255 → w.first ≤ 255 → w.last ≤ 255 → -32768 ≤ w.value → w.value ≤ 32767 →
      field b 0 1 = i ∧ field b 1 1 = 1 ∧ field b 2 1 = windowKindCode w.kind ∧ field b 3 1 = w.mask ∧
      field b 4 1 = w.first ∧ field b 5 1 = w.last ∧ signedField b 6 2 = w.value)) ∧
  (∀ (first : Bool) (r : FaultRecord), let b := faultBytes first r
    b.length = 17 ∧ (r.sequence ≤ 65535 → field b 0 2 = r.sequence) ∧
    field b 2 1 = (if r.time.isSome then 1 else 0) + (if r.fault.restartValid then 2 else 0) + (if first then 4 else 0) ∧
    (r.time = none → field b 3 6 = 0) ∧
    (∀ x, r.time = some x → x.day ≤ 65535 → x.second ≤ 86399 → x.ms ≤ 999 →
      field b 3 2 = x.day ∧ field b 5 4 = 1000 * x.second + x.ms) ∧
    field b 9 1 = groupCode r.fault.group ∧ field b 10 1 = reasonCode r.fault.reason ∧
    (r.fault.subject ≤ 255 → field b 11 1 = r.fault.subject) ∧ field b 12 1 = severityCode r.fault.severity ∧
    (-2147483648 ≤ r.fault.info → r.fault.info ≤ 2147483647 → signedField b 13 4 = r.fault.info)) ∧
  (∀ n : Notice, let b := noticeBytes n
    b.length = 14 ∧ field b 0 1 = noticeCode n.kind ∧ field b 1 1 = (if n.time.isSome then 1 else 0) ∧
    (n.time = none → field b 2 6 = 0) ∧
    (∀ x, n.time = some x → x.day ≤ 65535 → x.second ≤ 86399 → x.ms ≤ 999 →
      field b 2 2 = x.day ∧ field b 4 4 = 1000 * x.second + x.ms) ∧
    (n.subject ≤ 65535 → field b 8 2 = n.subject) ∧
    (0 ≤ n.value → n.value ≤ 4294967295 → (field b 10 4 : Int) = n.value) ∧
    (-2147483648 ≤ n.value → n.value ≤ 2147483647 → signedField b 10 4 = n.value)) ∧
  (∀ r : Settlement, let b := settlementBytes r
    let four (z : Int) : Prop := -2147483648 ≤ z ∧ z ≤ 2147483647
    b.length = 28 ∧ (r.number ≤ 65535 → field b 0 2 = r.number) ∧ (r.day ≤ 65535 → field b 2 2 = r.day) ∧
    (r.interval ≤ 255 → field b 4 1 = r.interval) ∧
    field b 5 1 = (if r.committed then 1 else 0) + (if r.cutShort then 2 else 0) + (if r.metered.isSome then 4 else 0) ∧
    (-32768 ≤ r.power → r.power ≤ 32767 → signedField b 6 2 = r.power) ∧ (four r.scheduled → signedField b 8 4 = r.scheduled) ∧
    (four r.reserve → signedField b 12 4 = r.reserve) ∧ (four r.shortfall → signedField b 16 4 = r.shortfall) ∧
    (r.metered = none → field b 20 4 = 0) ∧ (∀ z, r.metered = some z → four z → signedField b 20 4 = z) ∧
    (r.deviation = none → field b 24 4 = 0) ∧ (∀ z, r.deviation = some z → four z → signedField b 24 4 = z))

/-- R184, R185: the receiver's phases: what gives up a frame, and what a byte does in HUNT, after the first sync byte, and within
a frame, its last byte among them: that of a good frame is the frame received (R186), in the same step (log entry 24). A byte after
a gap above 10 ms is taken in HUNT (log entry 24). -/
def Obligations.StationReceiverPhases : Prop :=
  ∀ (b : Byte) (s : State),
    let hunting : Ck4 := { s.part with station := { s.part.station with phase := .hunt, inProgress := none, lastByte := none } }
    let at_ (phase : ReceiverPhase) (held : Option (List Byte)) : Ck4 :=
      { s.part with station := { s.part.station with phase := phase, inProgress := held, lastByte := some s.part.time.elapsed } }
    (∀ c ∈ ([.stationFrameGapTimeout, .characterFramingError, .linkResynchronisation] : List Instr),
      exec c s = .next (s.ended hunting)) ∧
    (s.part.station.phase = .hunt → b ≠ 0xD3#8 → exec (.stationByteReceived b) s = .next (s.ended s.part)) ∧
    (s.part.station.phase = .hunt → exec (.stationByteReceived 0xD3#8) s = .next (s.ended (at_ .syncSeen none))) ∧
    (s.part.gapExceeded = false → s.part.station.phase = .syncSeen →
      exec (.stationByteReceived 0x1C#8) s = .next (s.ended (at_ .inFrame (some []))) ∧
      exec (.stationByteReceived 0xD3#8) s = .next (s.ended (at_ .syncSeen none)) ∧
      (b ≠ 0x1C#8 → b ≠ 0xD3#8 → exec (.stationByteReceived b) s = .next (s.ended hunting))) ∧
    (∀ held, s.part.gapExceeded = false → s.part.station.phase = .inFrame → s.part.station.inProgress = some held →
      (held = [] → exec (.stationByteReceived b) s = .next (s.ended (at_ .inFrame (some [b])))) ∧
      (held.length ≥ 1 → field (held ++ [b]) 0 2 > 480 → exec (.stationByteReceived b) s = .next (s.ended hunting)) ∧
      (held.length ≥ 1 → field (held ++ [b]) 0 2 ≤ 480 → held.length + 1 < field (held ++ [b]) 0 2 + 6 →
        exec (.stationByteReceived b) s = .next (s.ended (at_ .inFrame (some (held ++ [b]))))) ∧
      (held.length ≥ 1 → field (held ++ [b]) 0 2 ≤ 480 → held.length + 1 ≥ field (held ++ [b]) 0 2 + 6 →
        frameGood (held ++ [b]) = false → exec (.stationByteReceived b) s = .next (s.ended hunting)) ∧
      (held.length ≥ 1 → field (held ++ [b]) 0 2 ≤ 480 → frameGood (held ++ [b]) = true →
        exec (.stationByteReceived b) s = exec (.stationFrameReceived ((held ++ [b]).getD 2 0) ((held ++ [b]).getD 3 0)
          (((held ++ [b]).drop 4).take (field (held ++ [b]) 0 2))) s)) ∧
    (∀ last, s.part.station.phase ≠ .hunt → s.part.station.lastByte = some last → last + 10 < s.part.time.elapsed →
      exec (.stationByteReceived b) s = exec (.stationByteReceived b) ⟨hunting, s.pending⟩) ∧
    (∀ last, s.part.station.lastByte = some last → s.part.time.elapsed ≤ last + 10 → s.part.gapExceeded = false)

/-! ### Lines -/

/-- R163, R164: a line is sampled where the elapsed count is a multiple of its check time, once at each count; a level delivered
at any other moment stands at its pin, and no millisecond passes while a sample is due (log entry 23). A sample that does not
confirm its level moves only the raw level and the previous sample; one that confirms a level the line does not hold makes it the
qualified level. For a line of function NONE nothing else follows; on a line of any function a sample that confirms a level has the
effect of the qualified change of that line and level, which `EmergencyStopTrips` and `LineFunctionResults` give. -/
def Obligations.InputSampleResult : Prop :=
  (∀ (i : Fin 16) (level : Level) (s : State),
      let l := s.part.input i.val
      let time : Nat := if l.checkCode = 0 then 1 else 2 ^ (l.checkCode - 1)
      let due : Prop := s.part.time.elapsed % time = 0 ∧ l.sampledAt ≠ some s.part.time.elapsed
      let sampled : InputLine :=
        { l with pin := some level, raw := level, previous := level, sampledAt := some s.part.time.elapsed }
      (¬ due → exec (.inputSample i level) s = .next (s.ended (s.part.setInput i.val { l with pin := some level }))) ∧
      (due → l.checkCode ≠ 0 → (l.sampledAt = none ∨ l.previous ≠ level) →
        exec (.inputSample i level) s = .next (s.ended (s.part.setInput i.val sampled))) ∧
      (due → l.qualified = some level →
        exec (.inputSample i level) s = .next (s.ended (s.part.setInput i.val sampled))) ∧
      (due → (l.checkCode = 0 ∨ (l.sampledAt.isSome = true ∧ l.previous = level)) →
        exec (.inputSample i level) s = exec (.inputQualifiedChange i level) s) ∧
      (due → l.function = .none → s.part.lines.inputs.length = 16 →
        (l.checkCode = 0 ∨ (l.sampledAt.isSome = true ∧ l.previous = level)) →
        exec (.inputSample i level) s = .next (s.ended (s.part.setInput i.val { sampled with qualified := some level }))) ∧
      (due → l.pin = some level → exec (.inputSample i level) s = .next (s.ended (s.part.takeSample i.val))) ∧
      (l.function = .none → s.part.lines.inputs.length = 16 →
        exec (.inputQualifiedChange i level) s = .next (s.ended
          (s.part.setInput i.val { sampled with qualified := some level })))) ∧
  (∀ (p : Ck4) (i : Nat), p.due = none → i < 16 → (p.input i).pin.isSome = true →
      p.time.elapsed % (if (p.input i).checkCode = 0 then 1 else 2 ^ ((p.input i).checkCode - 1)) ≠ 0 ∨
        (p.input i).sampledAt = some p.time.elapsed)

/-- R164, R166 to R170, R137: what a qualified change of a line hands over by its function and its edge: the fault recorded, the
machines tripped and whether each is to be locked out, trip in progress, the notices posted (R140, R145, R146, R106), and the bypass
permission. `EmergencyStopTrips` says the same of ESTOP. An adoption of the first level, an edge that does not act and a fault of
the disabled group change the line alone. What a changed permission does is said by `HoldFreezeBypassResults`. The change is also
the line's last sample (the model's choice, log entry 23). -/
def Obligations.LineFunctionResults : Prop :=
  ∀ (line : Fin 16) (level : Level) (s : State), s.part.lines.inputs.length = 16 →
    let l := s.part.input line.val
    let change := exec (.inputQualifiedChange line level) s
    let q : Ck4 := s.part.setInput line.val { l with
      pin := some level, raw := level, previous := level, sampledAt := some s.part.time.elapsed, qualified := some level }
    let active : Prop := l.qualified.isSome = true ∧ l.qualified ≠ some level ∧ levelActive l.polarity level = true
    let inactive : Prop := l.qualified.isSome = true ∧ l.qualified ≠ some level ∧ levelActive l.polarity level = false
    let struck (locks : Bool) (t : State) (m : MachineId) : Prop :=
      ((s.part.mach m).state = .lockedOut → (t.part.mach m).state = .lockedOut) ∧
      ((s.part.mach m).state = .tripped →
        (t.part.mach m).acknowledged = false ∧ (t.part.mach m).lockoutPending = ((s.part.mach m).lockoutPending || locks) ∧
        (t.part.mach m).state = (if (s.part.mach m).stoppedSinceTrip = true ∧
          ((s.part.mach m).lockoutPending = true ∨ locks = true) then .lockedOut else .tripped)) ∧
      ((s.part.mach m).state ≠ .lockedOut → (s.part.mach m).state ≠ .tripped →
        (t.part.mach m).state = .tripped ∧ (t.part.mach m).demand = .none ∧ (t.part.mach m).lockoutPending = locks ∧
        (t.part.mach m).acknowledged = false ∧ (t.part.slot (.machine m)).order = some (.machine .trip 0))
    let taken (reason : Reason) (info : Int) (severity : Severity) (valid : Bool) (ms : List MachineId) (t : State) : Prop :=
      change = .next t ∧ t.pending = s.pending ∧ t.part.input line.val = q.input line.val ∧
      (let fault : FaultReport := ⟨.lines, reason, line.val, info, severity, valid⟩
       t.part.station.notices = queueAfter s.part.station.notices (s.part.faultNotices fault ++
         (if severity = .plant then s.part.plantNotices fault else []) ++ ms.flatMap (s.part.tripNotices valid))) ∧
      t.part.protection.nextSequence = succ16 s.part.protection.nextSequence ∧
      t.part.protection.table = (if s.part.protection.table.length < 16 then s.part.protection.table ++
        [⟨s.part.protection.nextSequence, s.part.stamp, ⟨.lines, reason, line.val, info, severity, valid⟩⟩]
        else s.part.protection.table) ∧ t.part.time = s.part.time ∧ t.part.schedule = s.part.schedule
    let quiet (t : State) : Prop :=
      t.part.protection.tripInProgress = s.part.protection.tripInProgress ∧ t.part.mode = s.part.mode
    (l.qualified = some level ∨ l.function = .none → change = .next (s.ended q)) ∧
    (l.function ≠ .coolerReady → l.qualified = none ∨ s.part.protection.enables.lines = false → change = .next (s.ended q)) ∧
    (inactive → (∀ m, l.function ≠ .breaker m) → l.function ≠ .coolerReady → change = .next (s.ended q)) ∧
    (∀ m, l.function = .breaker m → active ∨ (inactive ∧ (s.part.mach m).state ≠ .loaded) → change = .next (s.ended q)) ∧
    (∀ m, l.function = .breaker m → inactive → (s.part.mach m).state = .loaded → s.part.protection.enables.lines = true →
      ∃ t : State, taken .breakerOpened (machineIndex m : Nat) .machine true [m] t ∧ quiet t ∧ struck false t m ∧
        ∀ k, k ≠ m → t.part.mach k = s.part.mach k) ∧
    (∀ m, l.function = .trip m → active → s.part.protection.enables.lines = true →
      ∃ t : State, taken .tripLine (machineIndex m : Nat) .machine false [m] t ∧ quiet t ∧ struck true t m ∧
        ∀ k, k ≠ m → t.part.mach k = s.part.mach k) ∧
    (l.function = .cavernHigh → active → s.part.protection.enables.lines = true →
      ∃ t : State, taken .cavernHigh 0 .direction true [.c1, .c2, .c3] t ∧ quiet t ∧ (∀ m, machineDir m = .charge → struck false t m) ∧
        ∀ m, machineDir m = .discharge → t.part.mach m = s.part.mach m) ∧
    (l.function = .cavernLow → active → s.part.protection.enables.lines = true →
      ∃ t : State, taken .cavernLow 0 .direction true [.e1, .e2] t ∧ quiet t ∧ (∀ m, machineDir m = .discharge → struck false t m) ∧
        ∀ m, machineDir m = .charge → t.part.mach m = s.part.mach m) ∧
    (l.function = .gridLoss → active → s.part.protection.enables.lines = true →
      ∃ t : State, taken .gridLoss 0 .plant true [.c1, .c2, .c3, .e1, .e2] t ∧ (∀ m, struck false t m) ∧ t.part.protection.tripInProgress = true ∧
        (s.part.protection.tripInProgress = false → t.part.mode = s.part.mode ∧
          t.part.protection.shutdown = s.part.protection.shutdown ∧
          t.part.protection.lastTripOrigin = some s.part.protection.nextSequence) ∧
        (s.part.protection.tripInProgress = true → s.part.protection.shutdown = false → t.part.mode = .shutdown ∧
          t.part.protection.shutdown = true ∧ ∀ m, (t.part.mach m).demand = .none)) ∧
    (l.function = .coolerReady → l.qualified ≠ some level → change = .next (s.ended q.recomputeBypass)) ∧
    (l.function = .coolerReady → ∃ t : State, change = .next t ∧ t.pending = s.pending ∧
      t.part.input line.val = q.input line.val ∧ t.part.protection = s.part.protection ∧
      (l.qualified ≠ some level →
        t.part.allocator.bypassPermitted = (s.part.allocator.bypassRequested && t.part.coolerAllows)))

/-! ### Plant link -/

/-- R197, R175: the CRC's check value, and what the bytes of the plant link, a gap and a break do. Bytes that arrive at one moment
are taken in their order; the model's choices are that a gap after a first sync byte alone and a break count nothing (log entry
10), and that a byte after a gap is taken in HUNT (log entry 24). -/
def Obligations.PlantFramesAndCrc : Prop :=
  crc16 [0x31#8, 0x32#8, 0x33#8, 0x34#8, 0x35#8, 0x36#8, 0x37#8, 0x38#8, 0x39#8] = 0x29B1#16 ∧
  (∀ (kind tag : Byte) (payload : List Byte) (k : Nat) (s : State), payload.length ≤ 480 → s.part.plantLink.phase = .hunt →
    let hunting : PlantLink := { s.part.plantLink with phase := .hunt, inProgress := none, lastByte := none }
    (s.part.plantLink.queue.length < 16 →
      exec (.plantFrameReceived (frameBytes kind tag payload)) s = .next (s.ended { s.part with plantLink := { hunting with
        queue := s.part.plantLink.queue ++ [⟨kind, payload⟩] } })) ∧
    (s.part.plantLink.queue.length ≥ 16 →
      exec (.plantFrameReceived (frameBytes kind tag payload)) s = .next (s.ended { s.part with plantLink := { hunting with
        drops := min 65535 (s.part.plantLink.drops + 1) } })) ∧
    (k < payload.length + 6 →
      exec (.plantFrameReceived ((frameBytes kind tag payload).take (k + 2))) s = .next (s.ended { s.part with
        plantLink := { s.part.plantLink with phase := .inFrame
                                             inProgress := some (((frameBytes kind tag payload).drop 2).take k)
                                             lastByte := some s.part.time.elapsed } }))) ∧
  (∀ (b : Byte) (bytes : List Byte) (s : State),
    let hunting : PlantLink := { s.part.plantLink with phase := .hunt, inProgress := none, lastByte := none }
    let counted : Ck4 := { s.part with plantLink := { hunting with
      framingErrors := min 65535 (s.part.plantLink.framingErrors + 1) } }
    let given : Ck4 := if s.part.plantLink.inProgress.isSome = true then counted else { s.part with plantLink := hunting }
    (s.part.plantLink.phase = .hunt → b ≠ 0xD3#8 → exec (.plantFrameReceived [b]) s = .next (s.ended s.part)) ∧
    (s.part.plantLink.phase = .hunt → bytes.length = field bytes 0 2 + 6 → field bytes 0 2 ≤ 480 → frameGood bytes = false →
      exec (.plantFrameReceived (0xD3#8 :: 0x1C#8 :: bytes)) s = .next (s.ended counted)) ∧
    (s.part.plantLink.phase = .hunt → bytes.length = 2 → field bytes 0 2 > 480 →
      exec (.plantFrameReceived (0xD3#8 :: 0x1C#8 :: bytes)) s = .next (s.ended counted)) ∧
    exec .plantFrameGapTimeout s = .next (s.ended given) ∧
    (∀ last, s.part.plantLink.phase ≠ .hunt → s.part.plantLink.lastByte = some last → last + 10 < s.part.time.elapsed →
      exec (.plantFrameReceived [b]) s = exec (.plantFrameReceived [b]) ⟨given, s.pending⟩) ∧
    exec .plantLinkBreak s = .next (s.ended { s.part with plantLink := hunting }))

/-- R176, R198, R119: a frame taken from the receive queue: none held (log entry 29), no source, a repeat, or a grid-meter record
accepted from a source of any state. R30, R31, R34, R38: a cavern record accepted: the record's temperature is held where it is in
range; a pressure in UNSEEDED seeds the mass and posts INVENTORY_RESEEDED with subject 0; FROZEN is left for the state it froze in;
the estimate, the working masses and the margins are those of the figures then held. `MassFollowsTotalisersAndPressure` says what a
pressure does in a seeded state, `MachineRecordTaken` and `VesselRecordTaken` what the records of machines and vessels do. 12.2,
R176, R198: the source of a frame is the first in-use entry of its address where kind, length and codes are those of that entry's
record; the fields, the codes, the valid flags and the layers of a record, from its bytes. -/
def Obligations.RecordTakenResult : Prop :=
  (∀ s : State,
    (s.part.plantLink.queue = [] → exec .recordTaken s = .next (s.ended s.part)) ∧
    (∀ f rest, s.part.plantLink.queue = f :: rest →
      let q : Ck4 := { s.part with plantLink := { s.part.plantLink with queue := rest } }
      (q.sourceOf f = none →
        exec .recordTaken s = .next (s.ended { s.part with plantLink := { s.part.plantLink with
          queue := rest, rejects := min 65535 (s.part.plantLink.rejects + 1) } })) ∧
      (∀ i, q.sourceOf f = some i → (s.part.source i).lastSequence = some (f.payload.getD 1 0) →
        exec .recordTaken s = .next (s.ended { s.part with plantLink := { s.part.plantLink with
          queue := rest, duplicates := min 65535 (s.part.plantLink.duplicates + 1) } })) ∧
      (∀ i, q.sourceOf f = some i → i < s.part.plantLink.sources.length →
        (s.part.source i).lastSequence ≠ some (f.payload.getD 1 0) →
        let e := s.part.source i
        let heard : SourceEntry := { e with
          state := .fresh, lastSequence := some (f.payload.getD 1 0), arrival := some s.part.time.elapsed, held := some f.payload }
        let taken : Ck4 := { q with plantLink := { q.plantLink with sources := s.part.plantLink.sources.set i heard } }
        (e.kind = .gridMeter →
          let marked : Bool := (field f.payload 2 1).testBit 0
          let read (d : DispatchUnit) : DispatchUnit := { d with
            frequency := if marked then some (field f.payload 3 4) else d.frequency
            frequencySinceFresh := d.frequencySinceFresh || marked
            exportKwh := some (field f.payload 7 4), importKwh := some (field f.payload 11 4) }
          (e.state = .fresh →
            exec .recordTaken s = .next (s.ended { taken with dispatch := read s.part.dispatch })) ∧
          (e.state ≠ .fresh →
            exec .recordTaken s = .next (s.ended (Ck4.post
              { taken with dispatch := read { s.part.dispatch with meter := .fresh, frequencySinceFresh := false } }
              .sourceState i (65536 * e.address + 256 * sourceStateCode e.state : Nat))))) ∧
        (e.kind = .cavern →
          let pressure := if (field f.payload 2 1).testBit 0 then some (field f.payload 3 2) else none
          let temperature := if (field f.payload 2 1).testBit 1 then some (signedField f.payload 5 2) else none
          (e.state = .fresh → exec .recordTaken s = .next (s.ended (taken.cavernRecord i pressure temperature))) ∧
          (e.state ≠ .fresh → exec .recordTaken s = .next (s.ended (Ck4.cavernRecord
            (taken.post .sourceState i (65536 * e.address + 256 * sourceStateCode e.state : Nat)) i pressure temperature))))))) ∧
  (∀ (p : Ck4) (f : PlantFrame) (i : Nat),
    let byte (n : Nat) : Nat := (f.payload.getD n 0).toNat
    let named (k : Nat) : Prop := k < p.plantLink.sources.length ∧ (p.source k).kind ≠ .unused ∧ (p.source k).address = byte 0
    let form (kind : Byte) (length : Nat) : Prop := f.kind = kind ∧ f.payload.length = length
    p.sourceOf f = some i ↔ f.payload ≠ [] ∧ named i ∧ (∀ k, k < i → ¬ named k) ∧
      ((p.source i).kind = .compressor ∨ (p.source i).kind = .expander → form 0x50#8 13 ∧ byte 3 ≤ 6) ∧
      ((p.source i).kind = .vessel → form 0x51#8 31 ∧ byte 3 ≤ 2 ∧ (byte 3 ≠ 0 → byte 4 ≤ 4) ∧ byte 6 < 16) ∧
      ((p.source i).kind = .cavern → form 0x52#8 7) ∧ ((p.source i).kind = .gridMeter → form 0x53#8 15)) ∧
  (∀ (payload : List Byte) (o : Nat),
    let byte (n : Nat) : Nat := (payload.getD n 0).toNat
    let two (n : Nat) : Nat := byte n + 256 * byte (n + 1)
    field payload o 1 = byte o ∧ field payload o 2 = two o ∧ field payload o 4 = two o + 65536 * two (o + 2) ∧
    signedField payload o 2 = (if two o < 32768 then (two o : Int) else (two o : Int) - 65536) ∧
    (layersOf payload).length = 12 ∧ (∀ n, n < 12 → (layersOf payload).getD n 0 = signedField payload (7 + 2 * n) 2)) ∧
  (∀ mask : Nat, (maskFlags mask).length = 12 ∧ ∀ n, n < 12 → (maskFlags mask).getD n false = decide (mask / 2 ^ n % 2 = 1)) ∧
  (([0, 1, 2, 3, 4, 5, 6].map reportOf) = [Report.stopped, .starting, .runUnloaded, .loaded, .unloading, .stopping, .tripped].map some ∧
    ∀ n, 6 < n → reportOf n = none) ∧
  (∀ (code machine : Nat) (route : Route), reportedRoute code machine = some route ↔
    (code = 0 ∧ route = .none) ∨ ∃ m, machine = machineIndex m ∧
      ((code = 1 ∧ route = .charge m) ∨ (code = 2 ∧ route = .discharge m))) ∧
  (∀ (p : Ck4) (i : Nat) (pressure : Option Nat) (temperature : Option Int),
    let q := p.cavernRecord i pressure temperature
    let held : Option Int := match temperature with
      | some t => if -400 ≤ t ∧ t ≤ 1200 then some t else p.inventory.temperature
      | none => p.inventory.temperature
    let before : InventoryState := if p.inventory.state = .frozen then p.inventory.resume else p.inventory.state
    q.inventory.temperature = held ∧
    (pressure = none → q.inventory.m = p.inventory.m ∧ q.inventory.state = before ∧
      q.inventory.lastPressure = p.inventory.lastPressure ∧ q.inventory.residual = p.inventory.residual) ∧
    (∀ kPa, pressure = some kPa → q.inventory.lastPressure = some kPa) ∧
    (∀ kPa t, pressure = some kPa → before = .unseeded → held = some t → p.constants.sections.cavern.good = true →
      let den := p.gas * (t + 2732).toNat
      q.inventory.m = min 281474976710655 ((2 * (kPa * p.volume * 10000000) + den) / (2 * den)) ∧
      q.inventory.state = .reseeded ∧ q.inventory.drift = 0 ∧ q.inventory.residual = 0 ∧
      (p.inventory.dischargeMargin = true → p.inventory.chargeMargin = true →
        q.station.notices = queueAfter p.station.notices
          ((match temperature with
            | some x => if (x < -400 ∨ 1200 < x) ∧ p.protection.enables.cavern = true then
                p.faultNotices ⟨.cavern, .tempRange, i, x, .warn, true⟩ else []
            | none => []) ++
          [⟨.inventoryReseeded, p.stamp, 0, (kPa : Nat)⟩] ++
          (if p.inventory.stored.pass = true ∧ q.inventory.stored.pass = false then
            [⟨.shortfall, p.stamp, q.inventory.stored.first, violationCode q.inventory.stored.kind⟩] else [])))) ∧
    (∀ kPa, pressure = some kPa → before = .unseeded → held = none →
      q.inventory.m = p.inventory.m ∧ q.inventory.state = .unseeded) ∧
    (p.constants.sections.cavern.good = true →
      (q.inventory.state = .unseeded → q.inventory.pEst = 0 ∧ q.inventory.wDis = 0 ∧ q.inventory.wChg = 0 ∧
        q.inventory.dischargeMargin = true ∧ q.inventory.chargeMargin = true) ∧
      (∀ t, q.inventory.state ≠ .unseeded → held = some t →
        q.inventory.pEst = min 65535 ((2 * (q.inventory.m * p.gas * (t + 2732).toNat) + p.volume * 10000000) /
          (2 * (p.volume * 10000000))) ∧
        q.inventory.wDis = q.inventory.m - q.inventory.mMin ∧ q.inventory.wChg = q.inventory.mMax - q.inventory.m ∧
        q.inventory.dischargeMargin = decide (q.inventory.pEst < p.pMin + p.pMargin) ∧
        q.inventory.chargeMargin = decide (q.inventory.pEst > p.pMax - p.pMargin))) ∧
    (∀ m, (p.inventory.dischargeMargin = false → q.inventory.dischargeMargin = true → machineDir m = .discharge →
        (q.mach m).state ≠ .loaded ∧ (q.mach m).state ≠ .loading) ∧
      (p.inventory.chargeMargin = false → q.inventory.chargeMargin = true → machineDir m = .charge →
        (q.mach m).state ≠ .loaded ∧ (q.mach m).state ≠ .loading)) ∧
    q.schedule = p.schedule ∧ q.time = p.time ∧ q.constants = p.constants ∧ q.protection.tripInProgress = p.protection.tripInProgress)

/-- R176, R177, R181: a machine record accepted from a source of any state: one that was STALE or LOST turns FRESH, is handed so to
the sequencer and posted; then the record's echo is compared with the slot of its machine, and the record is handed to the
sequencer. R181: what the comparison does. R101: what the sequencer takes, and in what order; that the margins which the totaliser
changes (R27, R32) are handed on (R92) right after it, before the adoption or the judgement, is the model's reading (log entry 37).
-/
def Obligations.MachineRecordTaken : Prop :=
  (∀ (s : State) (f : PlantFrame) (rest : List PlantFrame) (i : Nat) (m : MachineId) (report : Report),
    s.part.plantLink.queue = f :: rest →
    let q : Ck4 := { s.part with plantLink := { s.part.plantLink with queue := rest } }
    q.sourceOf f = some i → i < s.part.plantLink.sources.length → (s.part.source i).machine = some m →
    (s.part.source i).lastSequence ≠ some (f.payload.getD 1 0) →
    reportOf (field f.payload 3 1) = some report →
    let e := s.part.source i
    let heard : Ck4 := { q with plantLink := { q.plantLink with sources := s.part.plantLink.sources.set i { e with
      state := .fresh, lastSequence := some (f.payload.getD 1 0), arrival := some s.part.time.elapsed, held := some f.payload } } }
    let taken : Ck4 := if e.state = .fresh then heard else Ck4.post (heard.setMach m { s.part.mach m with source := .fresh })
      .sourceState i (65536 * e.address + 256 * sourceStateCode e.state : Nat)
    exec .recordTaken s = .next (s.ended (Ck4.machineRecord (taken.compareEcho (.machine m) (field f.payload 2 1)).2 m report
      (signedField f.payload 5 2) (if (field f.payload 4 1).testBit 0 then some (signedField f.payload 11 2) else none)
      (field f.payload 7 4)))) ∧
  (∀ (p : Ck4) (d : Dest) (echo : Nat),
    let t := p.slot d
    let c := p.compareEcho d echo
    (t.status = .empty ∨ t.sequence ≠ some echo → c = (false, p)) ∧
    (t.status = .confirmed → t.sequence = some echo → c = (true, p)) ∧
    (t.status ≠ .empty → t.status ≠ .confirmed → t.sequence = some echo →
      c.1 = true ∧ c.2.slot d = { t with status := .confirmed, confirmTimer := none, repeatTimer := none } ∧
      (∀ k, k ≠ d → c.2.slot k = p.slot k) ∧
      c.2.plantLink.transmitList = p.plantLink.transmitList.filter (· ≠ d) ∧
      (∀ m, c.2.mach m = if d = .machine m then { p.mach m with phase := { (p.mach m).phase with confirmed := true } }
        else p.mach m) ∧
      c.2 = { p with
        sequencer := { p.sequencer with machines := c.2.sequencer.machines }
        plantLink := { p.plantLink with
          machineSlots := c.2.plantLink.machineSlots, vesselSlots := c.2.plantLink.vesselSlots
          transmitList := c.2.plantLink.transmitList } })) ∧
  (∀ (p : Ck4) (m : MachineId) (report : Report) (power : Int) (inlet : Option Int) (totaliser : Nat),
    let read : Ck4 := p.setMach m { p.mach m with
      report := some report, power := power, inlet := if machineDir m = .discharge then inlet else none }
    let moved := Ck4.handMargins read (read.takeTotaliser m totaliser)
    let adopted := moved.setMach m { moved.mach m with adopted := true }
    let q := p.machineRecord m report power inlet totaliser
    ((p.mach m).adopted = true → q = moved.judgeReport m report) ∧
    ((p.mach m).adopted = false → (moved.mach m).state = .stopped → q = adopted.adopt m report) ∧
    ((p.mach m).adopted = false → (moved.mach m).state ≠ .stopped → q = adopted.judgeReport m report) ∧
    (q.mach m).report = some report ∧ (q.mach m).power = power ∧ (q.mach m).adopted = true ∧
    (q.mach m).inlet = (if machineDir m = .discharge then inlet else none) ∧
    (∀ k, k ≠ m → (q.mach k).report = (p.mach k).report ∧ (q.mach k).power = (p.mach k).power ∧
      (q.mach k).adopted = (p.mach k).adopted ∧ (q.mach k).source = (p.mach k).source))

/-- R102 to R105, R98, R86, R89, R93, R99: how a report is judged against the tracked state, and what follows: a consistent report,
a correction, a report followed down, one that completes a transition, the controller's own trip, and adoption. R72, R168: a machine
that enters LOADED with a bound vessel takes the trigger that its condition or class gives, and then its breaker (the order is log
entry 41). Each with the notices it posts (R106, R140); `rest` is what an entry into IDLE or LOADED goes on to post. -/
def Obligations.ReportsJudged : Prop :=
  ∀ (p : Ck4) (m : MachineId) (report : Report),
    let r := p.mach m
    let q := p.judgeReport m report
    let a := p.adopt m report
    let on := p.protection.enables.get (machineGroup m)
    let unexpected : FaultRecord := ⟨p.protection.nextSequence, p.stamp,
      ⟨machineGroup m, .unexpectedState, machineIndex m, (256 * machineStateCode r.state + reportCode report : Nat), .warn, true⟩⟩
    let tableWith : List FaultRecord :=
      if on = true ∧ p.protection.table.length < 16 then p.protection.table ++ [unexpected] else p.protection.table
    let posts (ns : List Notice) : Prop := q.station.notices = queueAfter p.station.notices ns
    let postsFirst (ns : List Notice) : Prop := ∃ rest : List Notice, posts (ns ++ rest)
    let warned : List Notice := if on = true then p.faultNotices unexpected.fault else []
    let lead : List Notice := if r.correcting = true then [] else warned
    let resting : Report → Prop := fun x => x = .stopped ∨ x = .starting ∨ x = .stopping
    let consistent : Prop := (r.state, report) ∈ ([(.stopped, .stopped), (.stopped, .stopping), (.starting, .stopped),
      (.starting, .starting), (.idle, .runUnloaded), (.loading, .runUnloaded), (.loaded, .loaded), (.unloading, .loaded),
      (.unloading, .unloading), (.stopping, .loaded), (.stopping, .unloading), (.stopping, .runUnloaded), (.stopping, .stopping),
      (.tripped, .runUnloaded), (.tripped, .loaded), (.tripped, .unloading), (.tripped, .stopping), (.tripped, .tripped),
      (.lockedOut, .stopped), (.lockedOut, .stopping), (.lockedOut, .tripped)] : List (MachineState × Report)) ∨
      (r.state = .starting ∧ report = .runUnloaded ∧ r.startFailed = true)
    let corrected (k : OrderKind) : Prop := (r.state, report, k) ∈ ([(.stopped, .starting, .stop), (.stopped, .runUnloaded, .stop),
      (.stopped, .loaded, .stop), (.stopped, .unloading, .stop), (.starting, .loaded, .unload), (.starting, .unloading, .unload),
      (.starting, .stopping, .start), (.idle, .loaded, .unload), (.idle, .unloading, .unload), (.stopping, .starting, .stop),
      (.tripped, .starting, .trip), (.lockedOut, .starting, .trip), (.lockedOut, .runUnloaded, .trip), (.lockedOut, .loaded, .trip),
      (.lockedOut, .unloading, .trip)] : List (MachineState × Report × OrderKind)) ∨
      (r.state = .loading ∧ report = .loaded ∧ r.phase.kind ≠ some .load ∧ k = .unload) ∨
      (r.state = .loading ∧ report = .unloading ∧ k = if r.phase.kind = some .load then .load else .unload)
    let followed : Prop := (resting report ∧ (r.state = .idle ∨ r.state = .loading ∨ r.state = .loaded ∨ r.state = .unloading)) ∨
      (r.state = .loaded ∧ (report = .unloading ∨ report = .runUnloaded))
    (consistent → q = p.setMach m { r with correcting := false }) ∧
    (∀ k, corrected k →
      let n := if k = .load then r.setpoint else 0
      (r.correcting = true → r.phase.kind = some k → r.setpoint = n → q = p) ∧
      (r.correcting = true → r.phase.kind ≠ some k ∨ r.setpoint ≠ n → q = p.placeMachine m k n) ∧
      (r.correcting = false →
        q.mach m = { r with phase := ⟨some k, n, false⟩, setpoint := n, correcting := true } ∧
        (q.slot (.machine m)).order = some (.machine k n) ∧ (q.slot (.machine m)).status = .waiting ∧
        (q.slot (.machine m)).sequence = some (nextSequence (p.slot (.machine m)).lastGiven) ∧
        q.protection.table = tableWith ∧ q.allocator = p.allocator ∧ posts warned)) ∧
    (followed →
      (q.mach m).correcting = false ∧ q.protection.table = (if r.correcting = true then p.protection.table else tableWith) ∧
      (report = .unloading → posts (lead ++ [p.moveNotice m r.state .unloading .unexpectedReport]) ∧
        (q.mach m).state = .unloading ∧ (q.slot (.machine m)).order = some (.machine .unload 0)) ∧
      (report = .starting ∨ report = .stopping →
        (q.mach m).state = .stopping ∧ (q.slot (.machine m)).order = some (.machine .stop 0) ∧
        (q.mach m).last = ⟨r.state, .stopping, .unexpectedReport, p.stamp⟩ ∧
        posts (lead ++ [p.moveNotice m r.state .stopping .unexpectedReport])) ∧
      (report = .stopped → (q.mach m).state = .stopped ∧ (q.mach m).demand = .none ∧
        (q.mach m).last = ⟨.stopping, .stopped, .stoppedReported, p.stamp⟩ ∧
        posts (lead ++ [p.moveNotice m r.state .stopping .unexpectedReport, p.moveNotice m .stopping .stopped .stoppedReported])) ∧
      (report = .runUnloaded → ((q.mach m).state = .idle ∨ (q.mach m).state = .loading ∨ (q.mach m).state = .stopping) ∧
        postsFirst (lead ++ [p.moveNotice m r.state .unloading .unexpectedReport, p.moveNotice m .unloading .idle .runReported]))) ∧
    (report = .runUnloaded → (r.state = .starting ∧ r.startFailed = false) ∨ r.state = .unloading →
      ((q.mach m).state = .idle ∨ (q.mach m).state = .loading ∨ (q.mach m).state = .stopping) ∧ (q.mach m).startTimer =
        (if r.state = .starting then none else r.startTimer) ∧ q.protection.table = p.protection.table ∧
        postsFirst [p.moveNotice m r.state .idle .runReported]) ∧
    (r.state = .loading → report = .loaded → r.phase.kind = some .load → (p.binding m).bound = none →
      p.assignedInactive (.breaker m) = false →
      posts [p.moveNotice m .loading .loaded .loadedReported] ∧ q.mach m = { r with
        state := .loaded, last := ⟨.loading, .loaded, .loadedReported, p.stamp⟩, loadPending := false, correcting := false }) ∧
    (∀ v, r.state = .loading → report = .loaded → r.phase.kind = some .load → (p.binding m).bound = some v →
      p.bindingsOk = true →
      let loaded : MachineRecord := { r with
        state := .loaded, last := ⟨.loading, .loaded, .loadedReported, p.stamp⟩, loadPending := false, correcting := false }
      let trigger : Option SwitchCause :=
        if (p.vessel v).condition = .degraded then some .degraded
        else if machineDir m = .charge ∧ (p.vessel v).content = .full then some .full
        else if machineDir m = .discharge ∧ (p.vessel v).content = .empty then some .empty else none
      let entered := p.moveNotice m .loading .loaded .loadedReported
      postsFirst [entered] ∧
      (p.assignedInactive (.breaker m) = false →
        (trigger = none → q.mach m = loaded ∧ q.allocator = p.allocator ∧ posts [entered]) ∧
        (∀ c w, trigger = some c → p.choose (machineDir m) = some w →
          posts [entered] ∧ q.mach m = loaded ∧ q.binding m = { p.binding m with
            target := some w, cause := some c, timer := some (1000 * p.switchLimit) } ∧
          (q.vessel w).use = .switchingIn m ∧ (q.vessel v).use = .switchingOut m ∧
          (q.slot (.vessel w)).order = some (.route (routeFor m))) ∧
        (∀ c, trigger = some c → p.choose (machineDir m) = none →
          (machineDir m = .charge ∧ p.allocator.bypassPermitted = true → q.mach m = loaded ∧
            posts [entered, p.switchNotice m 8] ∧ (q.binding m).bypass = true ∧ (q.binding m).bound = none ∧ (q.vessel v).use ≠ boundUse m) ∧
          (machineDir m = .discharge ∨ p.allocator.bypassPermitted = false →
            posts [entered, p.moveNotice m .loaded .unloading .heat] ∧
            (q.mach m).state = .unloading ∧ (q.mach m).last = ⟨.loaded, .unloading, .heat, p.stamp⟩ ∧
            (q.mach m).demand = r.demand ∧ (q.slot (.machine m)).order = some (.machine .unload 0)))) ∧
      (p.assignedInactive (.breaker m) = true → p.protection.enables.lines = true →
        (q.mach m).state = .tripped ∧ (q.mach m).demand = .none ∧ (q.mach m).lockoutPending = false ∧
        (q.slot (.machine m)).order = some (.machine .trip 0) ∧
        q.protection.nextSequence = succ16 p.protection.nextSequence)) ∧
    (r.state = .stopping → report = .stopped → posts [p.moveNotice m .stopping .stopped .stoppedReported] ∧
      (q.mach m).state = .stopped ∧ (q.mach m).demand = .none ∧
      q.sequencer.saveAsked = true) ∧
    (r.state = .tripped → report = .stopped → (q.mach m).stoppedSinceTrip = true ∧
      (q.mach m).state = (if r.lockoutPending = true then .lockedOut else if r.acknowledged = true then .stopped else .tripped) ∧
      posts (if r.lockoutPending = true then [p.moveNotice m .tripped .lockedOut .lockout] else if r.acknowledged = true then
        [p.moveNotice m .tripped .stopped .tripAck] else [])) ∧
    (report = .tripped → r.state ≠ .tripped → r.state ≠ .lockedOut →
      (r.controllerTripHanded = true → q = p) ∧
      (r.controllerTripHanded = false → on = true → (q.mach m).state = .tripped ∧ (q.mach m).lockoutPending = true ∧
        (q.mach m).demand = .none ∧ (q.mach m).controllerTripHanded = false ∧
        posts (p.faultNotices ⟨machineGroup m, .controllerTripped, machineIndex m, (machineStateCode r.state : Nat), .machine, false⟩ ++
          [p.moveNotice m r.state .tripped .trip]) ∧
        q.protection.nextSequence = succ16 p.protection.nextSequence)) ∧
    (∀ k, k ≠ m → q.mach k = p.mach k) ∧
    (r.state = .stopped →
      (report = .stopped → a = p) ∧
      (report = .starting ∨ report = .stopping → a = p.transitionOrder m .stopping .adopted .stop) ∧
      (report = .runUnloaded → a = p.toIdle m .adopted) ∧
      (report = .loaded ∨ report = .unloading →
        (p.dirInService (otherDir (machineDir m)) = false → a = p.transitionOrder m .unloading .adopted .unload) ∧
        (p.dirInService (otherDir (machineDir m)) = true → (a.mach m).state = .stopping ∧ a.protection.table = tableWith ∧
          a.station.notices = queueAfter p.station.notices (warned ++ [p.moveNotice m .stopped .stopping .adopted]) ∧
          (a.slot (.machine m)).order = some (.machine .stop 0))) ∧
      (report = .tripped → a = q))

/-- R56 to R60, R71, R72, R176, R177: a vessel record accepted from a source of any state (one that was STALE or LOST turns FRESH
first and is posted), and what the allocator makes of it where the bindings agree (`BindingsInvariant`): the layers, the condition,
the figures and the class; a route established, which the record must report and its echo confirm, with VESSEL_SWITCHED; and a class
or condition that is a trigger. What eligibility the record brings is taken after the route, and a record that turns the vessel
DEGRADED and FULL or EMPTY is taken with cause DEGRADED alone (R56 steps 6 and 7; log entry 20); when a vessel that the
establishment frees is taken is log entry 41. A string whose new vessel cannot reheat gives it up, where the setpoints are those of
the orders (`ReserveAndSetpointsInvariant`). -/
def Obligations.VesselRecordTaken : Prop :=
  (∀ (s : State) (f : PlantFrame) (rest : List PlantFrame) (i : Nat) (v : VesselId) (route : Route),
    s.part.plantLink.queue = f :: rest →
    let q : Ck4 := { s.part with plantLink := { s.part.plantLink with queue := rest } }
    q.sourceOf f = some i → i < s.part.plantLink.sources.length →
    (s.part.source i).kind = .vessel → vesselOf (s.part.source i).unit = some v →
    (s.part.source i).lastSequence ≠ some (f.payload.getD 1 0) →
    reportedRoute (field f.payload 3 1) (field f.payload 4 1) = some route →
    let e := s.part.source i
    let heard : Ck4 := { q with plantLink := { q.plantLink with sources := s.part.plantLink.sources.set i { e with
      state := .fresh, lastSequence := some (f.payload.getD 1 0), arrival := some s.part.time.elapsed, held := some f.payload } } }
    let taken : Ck4 := if e.state = .fresh then heard else Ck4.post (heard.setVessel v { s.part.vessel v with source := .fresh })
      .sourceState i (65536 * e.address + 256 * sourceStateCode e.state : Nat)
    let c := taken.compareEcho (.vessel v) (field f.payload 2 1)
    exec .recordTaken s = .next (s.ended (c.2.vesselRecord v route (maskFlags (field f.payload 5 2)) (layersOf f.payload) c.1))) ∧
  (∀ (held reported : List Int) (valid : List Bool) (i : Nat), held.length = 12 → reported.length = 12 → valid.length = 12 → i < 12 →
    let ls := substituteLayers (mergeLayers held reported valid) valid
    let above (j : Nat) : Prop := j < i ∧ valid.getD j false = true ∧ ∀ k, j < k → k < i → valid.getD k false = false
    let below (j : Nat) : Prop := i < j ∧ valid.getD j false = true ∧ ∀ k, i < k → k < j → valid.getD k false = false
    (valid.getD i false = true → ls.getD i 0 = reported.getD i 0) ∧
    (valid.getD i false = false →
      (∀ j k, above j → below k → ls.getD i 0 = (reported.getD j 0 + reported.getD k 0) / 2) ∧
      (∀ j, above j → (∀ k, i < k → valid.getD k false = false) → ls.getD i 0 = reported.getD j 0) ∧
      (∀ k, below k → (∀ j, j < i → valid.getD j false = false) → ls.getD i 0 = reported.getD k 0) ∧
      ((∀ j, valid.getD j false = false) → ls.getD i 0 = held.getD i 0))) ∧
  (∀ (p : Ck4) (v : VesselId) (route : Route) (valid : List Bool) (layers : List Int) (echoed : Bool), p.bindingsOk = true →
    let r := p.vessel v
    let q := p.vesselRecord v route valid layers echoed
    let ls := substituteLayers (mergeLayers r.layers layers valid) valid
    let count := (valid.filter (· == false)).length
    let condition : Condition := if r.condition = .normal ∧ count > 3 then .degraded else r.condition
    let full : Bool := p.tFullBottom ≤ ls.getD 11 0
    let out : Bool := condition = .degraded
    let content : ContentClass := if full then .full else if ls.getD 0 0 < p.tReheatMin then .empty else .partly
    let trigger (m : MachineId) : Prop := condition = .degraded ∨ (machineDir m = .charge ∧ content = .full) ∨
      (machineDir m = .discharge ∧ content = .empty)
    let posts (ns : List Notice) : Prop := q.station.notices = queueAfter p.station.notices
      ((if r.condition = .normal ∧ count > 3 ∧ p.protection.enables.vessel = true then
        p.faultNotices ⟨.vessel, .sensor, vesselIndex v, (count : Nat), .warn, true⟩ else []) ++ ns)
    (q.vessel v).route = route ∧ (q.vessel v).held = r.held ∧ (q.vessel v).source = r.source ∧
    (p.constants.sections.vessels.good = true →
      { q.vessel v with use := r.use } = { r with
        reported := true, layers := ls, valid := valid, invalidCount := count, condition := condition, route := route
        stored := sumNat (ls.map fun t => layerHeat (p.c10 v) p.tBase t)
        usable := if out then 0 else sumNat ((ls.filter fun t => p.tReheatMin ≤ t).map fun t => layerHeat (p.c10 v) p.tBase t)
        room := if out || full then 0 else sumNat (ls.map fun t => layerRoom (p.c10 v) p.tChargeMax t)
        content := content } ∧
      (∀ m, r.use = .switchingIn m → (p.binding m).target = some v → (p.binding m).bound ≠ some v →
        echoed = true → route = routeFor m →
        (p.mach m).state = .loading ∨ ((p.mach m).state = .loaded ∧ ¬ trigger m) →
        machineDir m = .charge ∨ r.held = false ∨ (p.mach m).state = .loading →
        (machineDir m = .charge ∨ (p.mach m).state = .loaded ∨ p.tReheatMin ≤ ls.getD 0 0 →
          (q.binding m).bound = some v ∧ (q.binding m).target = none ∧ (q.binding m).timer = none ∧
          (q.binding m).bypass = false ∧ (q.vessel v).use = boundUse m ∧ (q.mach m).state = (p.mach m).state ∧
          posts [p.switchNotice m (vesselIndex v)] ∧
          (∀ w, (p.binding m).bound = some w → (q.vessel w).use = .free ∨ ∃ k, (q.vessel w).use = .switchingIn k) ∧
          ((p.mach m).state = .loading →
            (p.minPower m + p.othersOrdered m ≤ p.rateLimit (machineDir m) →
              (q.mach m).setpoint = p.minPower m ∧ (q.slot (.machine m)).order = some (.machine .load (p.minPower m))) ∧
            (p.rateLimit (machineDir m) < p.minPower m + p.othersOrdered m → (q.mach m).loadPending = true))) ∧
        (p.setpointsOk = true → machineDir m = .discharge → (p.mach m).state = .loading → ls.getD 0 0 < p.tReheatMin →
          (∃ rest : List Notice, posts ([p.switchNotice m (vesselIndex v), p.moveNotice m .loading .idle .reheatLow] ++ rest)) ∧
          (q.binding m).bound ≠ some v ∧ (q.mach m).setpoint = (p.mach m).setpoint ∧
          ((q.mach m).state = .idle ∨ (q.mach m).state = .loading ∨ (q.mach m).state = .stopping))) ∧
      (∀ m, r.use = .switchingIn m → (p.binding m).target = some v → condition = r.condition →
        echoed = false ∨ route ≠ routeFor m → q.binding m = p.binding m ∧ (q.vessel v).use = .switchingIn m) ∧
      (∀ m, r.use = .switchingIn m → (p.binding m).target = some v → echoed = false ∨ route ≠ routeFor m →
        r.condition = .normal → condition = .degraded → (q.binding m).target ≠ some v ∧ (q.vessel v).use = .free) ∧
      (∀ m cause, (cause = .degraded ∧ r.condition = .normal ∧ condition = .degraded) ∨
          (condition = r.condition ∧ content ≠ r.content ∧
            ((cause = .full ∧ machineDir m = .charge ∧ content = .full) ∨
             (cause = .empty ∧ machineDir m = .discharge ∧ content = .empty))) →
        r.use = boundUse m → (p.binding m).bound = some v → (p.mach m).state = .loaded → (p.binding m).target = none →
        (∀ w, p.choose (machineDir m) = some w →
          q.binding m = { p.binding m with target := some w, cause := some cause, timer := some (1000 * p.switchLimit) } ∧
          (q.vessel w).use = .switchingIn m ∧ (q.vessel v).use = .switchingOut m ∧
          (q.slot (.vessel w)).order = some (.route (routeFor m)) ∧ q.sequencer.machines = p.sequencer.machines) ∧
        (p.choose (machineDir m) = none → machineDir m = .discharge ∨ p.allocator.bypassPermitted = false →
          (q.mach m).state = .unloading ∧ (q.mach m).last = ⟨.loaded, .unloading, .heat, p.stamp⟩ ∧
          q.binding m = { p.binding m with bypass := false } ∧ (q.vessel v).use = boundUse m))) ∧
    (∀ k, (q.mach k).demand = (p.mach k).demand) ∧ q.schedule = p.schedule ∧ q.time = p.time)

/-- R177, R178, R27, R38, R58, R74, R119, R131: a source turns STALE or LOST, and what its owner makes of it: the sequencer holds
the state, and a LOST machine source drops the machine's totaliser baseline and trips the machine; a LOST vessel source degrades the
vessel where it was NORMAL, with what R72 and R74 make of that; the cavern source freezes a seeded inventory; the grid meter's state
is dispatch's. SOURCE_STATE is posted. The model's choices: the two commands test the state of the source and not its age (log entry
3), and one whose condition on the state does not hold does nothing (log entry 29). -/
def Obligations.SourceAgeResults : Prop :=
  ∀ (i : Fin 24) (s : State), s.part.plantLink.sources.length = 24 →
    let e := s.part.source i.val
    let frozen : Inventory :=
      if s.part.inventory.state = .unseeded ∨ s.part.inventory.state = .frozen then s.part.inventory
      else { s.part.inventory with state := .frozen, resume := s.part.inventory.state }
    let change (state : SourceState) : Notice :=
      ⟨.sourceState, s.part.stamp, i.val, (65536 * e.address + 256 * sourceStateCode e.state + sourceStateCode state : Nat)⟩
    let owned : Option MachineId := e.machine
    let fault : FaultReport := ⟨.port, .lost, i.val, (e.address : Nat),
      if e.kind = .compressor ∨ e.kind = .expander then .machine else .warn, true⟩
    let on := s.part.protection.enables.port
    (e.kind = .unused ∨ e.state ≠ .fresh ∨ s.part.tStale e.kind = s.part.tLost e.kind →
      exec (.sourceStale i) s = .next (s.ended s.part)) ∧
    (e.kind ≠ .unused → e.state = .fresh → s.part.tStale e.kind ≠ s.part.tLost e.kind →
      ∃ t : State, exec (.sourceStale i) s = .next t ∧ t.pending = s.pending ∧
        t.part.source i.val = { e with state := .stale } ∧
        (∀ j, j ≠ i.val → t.part.source j = s.part.source j) ∧ t.part.protection = s.part.protection ∧
        (∀ m, t.part.mach m = if owned = some m then { s.part.mach m with source := .stale } else s.part.mach m) ∧
        (∀ v, t.part.vessel v = if e.kind = .vessel ∧ e.unit = vesselIndex v then { s.part.vessel v with source := .stale }
          else s.part.vessel v) ∧
        (∀ m, t.part.binding m = s.part.binding m) ∧
        t.part.inventory = (if e.kind = .cavern then frozen else s.part.inventory) ∧
        t.part.dispatch = (if e.kind = .gridMeter then { s.part.dispatch with meter := .stale } else s.part.dispatch) ∧
        (s.part.station.notices.length ≤ 30 → (∀ n ∈ s.part.station.notices, n.kind ≠ .overflow) →
          t.part.station.notices = s.part.station.notices ++ [change .stale])) ∧
    (e.kind = .unused ∨ e.state = .lost ∨ (e.state = .fresh ∧ s.part.tStale e.kind ≠ s.part.tLost e.kind) →
      exec (.sourceLost i) s = .next (s.ended s.part)) ∧
    (e.kind ≠ .unused → e.state = .stale ∨ (e.state = .fresh ∧ s.part.tStale e.kind = s.part.tLost e.kind) →
      ∃ t : State, exec (.sourceLost i) s = .next t ∧ t.pending = s.pending ∧
        t.part.source i.val = { e with state := .lost, lastSequence := none } ∧
        (∀ j, j ≠ i.val → t.part.source j = s.part.source j) ∧
        t.part.protection.nextSequence = (if on = true then
          succ16 s.part.protection.nextSequence else s.part.protection.nextSequence) ∧
        t.part.protection.table = (if on = true ∧ s.part.protection.table.length < 16 then
          s.part.protection.table ++ [⟨s.part.protection.nextSequence, s.part.stamp, fault⟩] else s.part.protection.table) ∧
        t.part.protection.tripInProgress = s.part.protection.tripInProgress ∧ t.part.mode = s.part.mode ∧
        (s.part.station.notices.length ≤ 16 → (∀ n ∈ s.part.station.notices, n.kind ≠ .overflow) →
          change .lost ∈ t.part.station.notices) ∧
        t.part.inventory = (if e.kind = .cavern then frozen else match owned with
          | some m => { s.part.inventory with baseline := s.part.inventory.baseline.set m none }
          | none => s.part.inventory) ∧
        (e.kind = .gridMeter → t.part.dispatch = { s.part.dispatch with meter := .lost, meterLost := true }) ∧
        (e.kind = .cavern ∨ e.kind = .gridMeter → t.part.sequencer.machines = s.part.sequencer.machines ∧
          t.part.allocator = s.part.allocator) ∧
        (∀ m, owned = some m →
          (∀ k, k ≠ m → t.part.mach k = s.part.mach k) ∧ (t.part.mach m).source = .lost ∧
          (on = false ∨ (s.part.mach m).state = .lockedOut → t.part.mach m = { s.part.mach m with source := .lost }) ∧
          (on = true → (s.part.mach m).state = .tripped → (t.part.mach m).acknowledged = false ∧
            (t.part.mach m).lockoutPending = (s.part.mach m).lockoutPending ∧
            (t.part.mach m).state = (if (s.part.mach m).stoppedSinceTrip = true ∧ (s.part.mach m).lockoutPending = true then
              .lockedOut else .tripped)) ∧
          (on = true → (s.part.mach m).state ≠ .lockedOut → (s.part.mach m).state ≠ .tripped →
            (t.part.mach m).state = .tripped ∧ (t.part.mach m).demand = .none ∧ (t.part.mach m).lockoutPending = false ∧
            (t.part.slot (.machine m)).order = some (.machine .trip 0))) ∧
        (∀ v, e.kind = .vessel → e.unit = vesselIndex v →
          let r := s.part.vessel v
          let alone (r' : VesselRecord) : Prop := (∀ w, t.part.vessel w = if w = v then r' else s.part.vessel w) ∧
            (∀ m, t.part.binding m = s.part.binding m) ∧ t.part.sequencer.machines = s.part.sequencer.machines
          (t.part.vessel v).source = .lost ∧ (t.part.vessel v).condition = .degraded ∧
          (r.condition = .degraded → alone { r with source := .lost }) ∧
          (r.condition = .normal →
            (t.part.vessel v).usable = 0 ∧ (t.part.vessel v).room = 0 ∧
            (r.use = .free ∨ r.use = .isolated →
              alone { r with source := .lost, condition := .degraded, usable := 0, room := 0 }) ∧
            (s.part.bindingsOk = true → ∀ m,
              (r.use = .switchingIn m → (t.part.binding m).target ≠ some v ∧ (t.part.vessel v).use = .free) ∧
              (r.use = .switchingOut m ∨ (r.use = boundUse m ∧ (s.part.mach m).state ≠ .loaded) →
                alone { r with source := .lost, condition := .degraded, usable := 0, room := 0 }) ∧
              (r.use = boundUse m → (s.part.mach m).state = .loaded →
                (∀ w, s.part.choose (machineDir m) = some w →
                  t.part.binding m = { s.part.binding m with
                    target := some w, cause := some .degraded, timer := some (1000 * s.part.switchLimit) } ∧
                  (t.part.vessel w).use = .switchingIn m ∧ (t.part.vessel v).use = .switchingOut m ∧
                  t.part.sequencer.machines = s.part.sequencer.machines) ∧
                (s.part.choose (machineDir m) = none → machineDir m = .discharge ∨ s.part.allocator.bypassPermitted = false →
                  (t.part.mach m).state = .unloading ∧
                  (t.part.mach m).last = ⟨.loaded, .unloading, .heat, s.part.stamp⟩))))))

/-- R179, R180, R182, R141, R91: the end of an order frame, a slot's repeat timer and its confirm timer: an order that stays
unconfirmed while its destination's source is not LOST is a fault, which trips the machine of a machine order, unloads the machine
of a vessel's route, and warns of a route NONE. The model's choices: an event with no transmission or no such timer running does
nothing (log entry 29), and a timer expires at any time it has left (log entry 3). -/
def Obligations.OrderSlotResults : Prop :=
  ∀ (d : Dest) (s : State),
    (s.part.plantLink.transmission = none → exec .orderFrameSent s = .next (s.ended s.part)) ∧
    (∀ bytes replaced, s.part.plantLink.transmission = some ⟨d, bytes, replaced, true⟩ →
      exec .orderFrameSent s = .next (s.ended { s.part with plantLink := { s.part.plantLink with transmission := none } })) ∧
    (∀ bytes replaced, s.part.plantLink.transmission = some ⟨d, bytes, replaced, false⟩ →
      exec .orderFrameSent s = .next (s.ended (Ck4.setSlot
        { s.part with plantLink := { s.part.plantLink with transmission := none } } d
        { s.part.slot d with
          transmissions := min 65535 ((s.part.slot d).transmissions + 1)
          status := if (s.part.slot d).status = .waiting ∧ replaced = false then .sent else (s.part.slot d).status
          repeatTimer := if (s.part.slot d).status = .confirmed then (s.part.slot d).repeatTimer
            else some s.part.orderRepeat }))) ∧
    ((s.part.slot d).repeatTimer = none → exec (.orderRepeatDue d) s = .next (s.ended s.part)) ∧
    ((s.part.slot d).repeatTimer.isSome = true →
      ∃ q : Ck4, exec (.orderRepeatDue d) s = .next (s.ended q) ∧
        q.slot d = { s.part.slot d with repeatTimer := none } ∧ (∀ k, k ≠ d → q.slot k = s.part.slot k) ∧
        q.plantLink.transmitList = (if d ∈ s.part.plantLink.transmitList then s.part.plantLink.transmitList
          else s.part.plantLink.transmitList ++ [d]) ∧
        q = { s.part with plantLink := { s.part.plantLink with
          machineSlots := q.plantLink.machineSlots, vesselSlots := q.plantLink.vesselSlots
          transmitList := q.plantLink.transmitList } }) ∧
    ((s.part.slot d).confirmTimer = none → exec (.orderUnconfirmed d) s = .next (s.ended s.part)) ∧
    ((s.part.slot d).confirmTimer.isSome = true → (s.part.source (s.part.sourceIndexOf d)).state = .lost →
      exec (.orderUnconfirmed d) s = .next (s.ended (s.part.setSlot d
        { s.part.slot d with confirmTimer := none, status := .unconfirmed }))) ∧
    (s.part.protection.enables.port = false → (s.part.slot d).confirmTimer.isSome = true →
      exec (.orderUnconfirmed d) s = .next (s.ended (s.part.setSlot d
        { s.part.slot d with confirmTimer := none, status := .unconfirmed }))) ∧
    ((s.part.slot d).confirmTimer.isSome = true → (s.part.source (s.part.sourceIndexOf d)).state ≠ .lost →
      s.part.protection.enables.port = true →
      let taken (subject : Nat) (severity : Severity) (t : State) : Prop :=
        exec (.orderUnconfirmed d) s = .next t ∧ t.pending = s.pending ∧
        t.part.protection.nextSequence = succ16 s.part.protection.nextSequence ∧
        t.part.protection.table = (if s.part.protection.table.length < 16 then s.part.protection.table ++
          [⟨s.part.protection.nextSequence, s.part.stamp,
            ⟨.port, .orderUnconfirmed, subject, (s.part.sourceIndexOf d : Nat), severity, true⟩⟩]
          else s.part.protection.table) ∧
        t.part.protection.tripInProgress = s.part.protection.tripInProgress ∧ t.part.mode = s.part.mode
      let unconfirmed (t : State) : Prop :=
        t.part.slot d = { s.part.slot d with confirmTimer := none, status := .unconfirmed }
      (∀ m, d = .machine m → ∃ t : State, taken (machineIndex m) .machine t ∧
        (∀ k, k ≠ m → t.part.mach k = s.part.mach k) ∧
        ((s.part.mach m).state = .lockedOut → t.part.mach m = s.part.mach m ∧ unconfirmed t) ∧
        ((s.part.mach m).state = .tripped → (t.part.mach m).acknowledged = false ∧ unconfirmed t ∧
          (t.part.mach m).state = (if (s.part.mach m).stoppedSinceTrip = true ∧ (s.part.mach m).lockoutPending = true then
            .lockedOut else .tripped)) ∧
        ((s.part.mach m).state ≠ .lockedOut → (s.part.mach m).state ≠ .tripped →
          (t.part.mach m).state = .tripped ∧ (t.part.mach m).demand = .none ∧ (t.part.mach m).lockoutPending = false ∧
          (t.part.slot d).order = some (.machine .trip 0) ∧ (t.part.slot d).status = .waiting)) ∧
      (∀ v m, d = .vessel v → (s.part.slot d).order = some (.route (.charge m)) ∨
          (s.part.slot d).order = some (.route (.discharge m)) →
        ∃ t : State, taken (machineIndex m) .unload t ∧
          ((s.part.mach m).state ≠ .loaded → (s.part.mach m).state ≠ .loading →
            t.part.sequencer.machines = s.part.sequencer.machines ∧ unconfirmed t) ∧
          ((s.part.mach m).state = .loaded ∨ ((s.part.mach m).state = .loading ∧ (s.part.mach m).phase.kind = some .load) →
            (t.part.mach m).state = .unloading ∧
            (t.part.mach m).last = ⟨(s.part.mach m).state, .unloading, .faultUnload, s.part.stamp⟩ ∧
            (t.part.mach m).demand = (s.part.mach m).demand ∧
            (t.part.slot (.machine m)).order = some (.machine .unload 0)) ∧
          ((s.part.mach m).state = .loading → (s.part.mach m).phase.kind ≠ some .load →
            (t.part.mach m).demand = (s.part.mach m).demand ∧ ((t.part.mach m).state = .idle ∨
              (t.part.mach m).state = .loading ∨ (t.part.mach m).state = .stopping))) ∧
      (∀ v, d = .vessel v → (s.part.slot d).order = some (.route .none) →
        ∃ t : State, taken 255 .warn t ∧ unconfirmed t ∧ t.part.sequencer.machines = s.part.sequencer.machines ∧
          t.part.allocator = s.part.allocator))
end

