-- ==== Sys2Proof/Laws/State.lean ====
section
/-! SUPPORT. One lemma per field per update: reading a machine, a vessel, a binding, a slot, a line, a source, or a whole block
after one of the shared operations that replace them. -/

namespace Sys2Proof.Machine

/-! ### Indexed families -/

@[simp] theorem PerMachine.get_set_self {α : Type} (f : PerMachine α) (m : MachineId) (x : α) : (f.set m x).get m = x := by
  cases m <;> rfl

@[simp] theorem PerMachine.get_set_ne {α : Type} (f : PerMachine α) (m k : MachineId) (x : α) (h : k ≠ m) :
    (f.set m x).get k = f.get k := by
  cases m <;> cases k <;> first | rfl | exact absurd rfl h

theorem PerMachine.get_set {α : Type} (f : PerMachine α) (m k : MachineId) (x : α) :
    (f.set m x).get k = if k = m then x else f.get k := by
  by_cases h : k = m
  · subst h; simp
  · simp [h]

@[simp] theorem PerVessel.get_set_self {α : Type} (f : PerVessel α) (v : VesselId) (x : α) : (f.set v x).get v = x := by
  cases v <;> rfl

@[simp] theorem PerVessel.get_set_ne {α : Type} (f : PerVessel α) (v w : VesselId) (x : α) (h : w ≠ v) :
    (f.set v x).get w = f.get w := by
  cases v <;> cases w <;> first | rfl | exact absurd rfl h

theorem PerVessel.get_set {α : Type} (f : PerVessel α) (v w : VesselId) (x : α) :
    (f.set v x).get w = if w = v then x else f.get w := by
  by_cases h : w = v
  · subst h; simp
  · simp [h]

/-! ### `setMach` -/

section setMach
variable (p : Ck4) (m : MachineId) (r : MachineRecord)
@[simp] theorem setMach_mach_self : (p.setMach m r).mach m = r := by simp [Ck4.setMach, Ck4.mach]
@[simp] theorem setMach_mach_ne (k : MachineId) (h : k ≠ m) : (p.setMach m r).mach k = p.mach k := by
  simp [Ck4.setMach, Ck4.mach, h]
theorem setMach_mach (k : MachineId) : (p.setMach m r).mach k = if k = m then r else p.mach k := by
  simp [Ck4.setMach, Ck4.mach, PerMachine.get_set]
@[simp] theorem setMach_schedule : (p.setMach m r).schedule = p.schedule := rfl
@[simp] theorem setMach_inventory : (p.setMach m r).inventory = p.inventory := rfl
@[simp] theorem setMach_allocator : (p.setMach m r).allocator = p.allocator := rfl
@[simp] theorem setMach_dispatch : (p.setMach m r).dispatch = p.dispatch := rfl
@[simp] theorem setMach_protection : (p.setMach m r).protection = p.protection := rfl
@[simp] theorem setMach_time : (p.setMach m r).time = p.time := rfl
@[simp] theorem setMach_lines : (p.setMach m r).lines = p.lines := rfl
@[simp] theorem setMach_plantLink : (p.setMach m r).plantLink = p.plantLink := rfl
@[simp] theorem setMach_station : (p.setMach m r).station = p.station := rfl
@[simp] theorem setMach_constants : (p.setMach m r).constants = p.constants := rfl
@[simp] theorem setMach_vessel (v : VesselId) : (p.setMach m r).vessel v = p.vessel v := rfl
@[simp] theorem setMach_binding (k : MachineId) : (p.setMach m r).binding k = p.binding k := rfl
@[simp] theorem setMach_slot (d : Dest) : (p.setMach m r).slot d = p.slot d := rfl
@[simp] theorem setMach_stamp : (p.setMach m r).stamp = p.stamp := rfl
@[simp] theorem setMach_mode : (p.setMach m r).mode = p.mode := rfl
end setMach

/-! ### `setVessel` -/

section setVessel
variable (p : Ck4) (v : VesselId) (r : VesselRecord)
@[simp] theorem setVessel_vessel_self : (p.setVessel v r).vessel v = r := by simp [Ck4.setVessel, Ck4.vessel]
@[simp] theorem setVessel_vessel_ne (w : VesselId) (h : w ≠ v) : (p.setVessel v r).vessel w = p.vessel w := by
  simp [Ck4.setVessel, Ck4.vessel, h]
theorem setVessel_vessel (w : VesselId) : (p.setVessel v r).vessel w = if w = v then r else p.vessel w := by
  simp [Ck4.setVessel, Ck4.vessel, PerVessel.get_set]
@[simp] theorem setVessel_schedule : (p.setVessel v r).schedule = p.schedule := rfl
@[simp] theorem setVessel_inventory : (p.setVessel v r).inventory = p.inventory := rfl
@[simp] theorem setVessel_sequencer : (p.setVessel v r).sequencer = p.sequencer := rfl
@[simp] theorem setVessel_dispatch : (p.setVessel v r).dispatch = p.dispatch := rfl
@[simp] theorem setVessel_protection : (p.setVessel v r).protection = p.protection := rfl
@[simp] theorem setVessel_time : (p.setVessel v r).time = p.time := rfl
@[simp] theorem setVessel_lines : (p.setVessel v r).lines = p.lines := rfl
@[simp] theorem setVessel_plantLink : (p.setVessel v r).plantLink = p.plantLink := rfl
@[simp] theorem setVessel_station : (p.setVessel v r).station = p.station := rfl
@[simp] theorem setVessel_constants : (p.setVessel v r).constants = p.constants := rfl
@[simp] theorem setVessel_mach (m : MachineId) : (p.setVessel v r).mach m = p.mach m := rfl
@[simp] theorem setVessel_binding (m : MachineId) : (p.setVessel v r).binding m = p.binding m := rfl
@[simp] theorem setVessel_slot (d : Dest) : (p.setVessel v r).slot d = p.slot d := rfl
@[simp] theorem setVessel_hold : (p.setVessel v r).allocator.hold = p.allocator.hold := rfl
@[simp] theorem setVessel_mode : (p.setVessel v r).mode = p.mode := rfl
end setVessel

/-! ### `setBinding` -/

section setBinding
variable (p : Ck4) (m : MachineId) (b : Binding)
@[simp] theorem setBinding_binding_self : (p.setBinding m b).binding m = b := by simp [Ck4.setBinding, Ck4.binding]
@[simp] theorem setBinding_binding_ne (k : MachineId) (h : k ≠ m) : (p.setBinding m b).binding k = p.binding k := by
  simp [Ck4.setBinding, Ck4.binding, h]
@[simp] theorem setBinding_schedule : (p.setBinding m b).schedule = p.schedule := rfl
@[simp] theorem setBinding_inventory : (p.setBinding m b).inventory = p.inventory := rfl
@[simp] theorem setBinding_sequencer : (p.setBinding m b).sequencer = p.sequencer := rfl
@[simp] theorem setBinding_dispatch : (p.setBinding m b).dispatch = p.dispatch := rfl
@[simp] theorem setBinding_protection : (p.setBinding m b).protection = p.protection := rfl
@[simp] theorem setBinding_time : (p.setBinding m b).time = p.time := rfl
@[simp] theorem setBinding_lines : (p.setBinding m b).lines = p.lines := rfl
@[simp] theorem setBinding_plantLink : (p.setBinding m b).plantLink = p.plantLink := rfl
@[simp] theorem setBinding_station : (p.setBinding m b).station = p.station := rfl
@[simp] theorem setBinding_constants : (p.setBinding m b).constants = p.constants := rfl
@[simp] theorem setBinding_mach (k : MachineId) : (p.setBinding m b).mach k = p.mach k := rfl
@[simp] theorem setBinding_vessel (v : VesselId) : (p.setBinding m b).vessel v = p.vessel v := rfl
@[simp] theorem setBinding_slot (d : Dest) : (p.setBinding m b).slot d = p.slot d := rfl
@[simp] theorem setBinding_mode : (p.setBinding m b).mode = p.mode := rfl
end setBinding

/-! ### `setSlot` and `place` -/

section setSlot
variable (p : Ck4) (d : Dest) (x : Slot)
@[simp] theorem setSlot_slot_self : (p.setSlot d x).slot d = x := by cases d <;> simp [Ck4.setSlot, Ck4.slot]
@[simp] theorem setSlot_slot_ne (e : Dest) (h : e ≠ d) : (p.setSlot d x).slot e = p.slot e := by
  cases d <;> cases e <;> simp_all [Ck4.setSlot, Ck4.slot]
@[simp] theorem setSlot_schedule : (p.setSlot d x).schedule = p.schedule := by cases d <;> rfl
@[simp] theorem setSlot_inventory : (p.setSlot d x).inventory = p.inventory := by cases d <;> rfl
@[simp] theorem setSlot_allocator : (p.setSlot d x).allocator = p.allocator := by cases d <;> rfl
@[simp] theorem setSlot_sequencer : (p.setSlot d x).sequencer = p.sequencer := by cases d <;> rfl
@[simp] theorem setSlot_dispatch : (p.setSlot d x).dispatch = p.dispatch := by cases d <;> rfl
@[simp] theorem setSlot_protection : (p.setSlot d x).protection = p.protection := by cases d <;> rfl
@[simp] theorem setSlot_time : (p.setSlot d x).time = p.time := by cases d <;> rfl
@[simp] theorem setSlot_lines : (p.setSlot d x).lines = p.lines := by cases d <;> rfl
@[simp] theorem setSlot_station : (p.setSlot d x).station = p.station := by cases d <;> rfl
@[simp] theorem setSlot_constants : (p.setSlot d x).constants = p.constants := by cases d <;> rfl
@[simp] theorem setSlot_mach (m : MachineId) : (p.setSlot d x).mach m = p.mach m := by cases d <;> rfl
@[simp] theorem setSlot_vessel (v : VesselId) : (p.setSlot d x).vessel v = p.vessel v := by cases d <;> rfl
@[simp] theorem setSlot_binding (m : MachineId) : (p.setSlot d x).binding m = p.binding m := by cases d <;> rfl
/-- A slot is part of the plant link, and the link keeps the rest. -/
theorem setSlot_plantLink : (p.setSlot d x).plantLink = { p.plantLink with
    machineSlots := (p.setSlot d x).plantLink.machineSlots, vesselSlots := (p.setSlot d x).plantLink.vesselSlots } := by
  cases d <;> rfl
end setSlot

section place
variable (p : Ck4) (d : Dest) (o : Order)
@[simp] theorem place_schedule : (p.place d o).schedule = p.schedule := by simp [Ck4.place]
@[simp] theorem place_inventory : (p.place d o).inventory = p.inventory := by simp [Ck4.place]
@[simp] theorem place_allocator : (p.place d o).allocator = p.allocator := by simp [Ck4.place]
@[simp] theorem place_sequencer : (p.place d o).sequencer = p.sequencer := by simp [Ck4.place]
@[simp] theorem place_dispatch : (p.place d o).dispatch = p.dispatch := by simp [Ck4.place]
@[simp] theorem place_protection : (p.place d o).protection = p.protection := by simp [Ck4.place]
@[simp] theorem place_time : (p.place d o).time = p.time := by simp [Ck4.place]
@[simp] theorem place_lines : (p.place d o).lines = p.lines := by simp [Ck4.place]
@[simp] theorem place_station : (p.place d o).station = p.station := by simp [Ck4.place]
@[simp] theorem place_constants : (p.place d o).constants = p.constants := by simp [Ck4.place]
@[simp] theorem place_mach (m : MachineId) : (p.place d o).mach m = p.mach m := by simp [Ck4.mach]
@[simp] theorem place_vessel (v : VesselId) : (p.place d o).vessel v = p.vessel v := by simp [Ck4.vessel]
@[simp] theorem place_binding (m : MachineId) : (p.place d o).binding m = p.binding m := by simp [Ck4.binding]
/-- R179: the slot of the destination takes the placement. -/
@[simp] theorem place_slot_self : (p.place d o).slot d =
    (p.slot d).place o (if p.good .port then some (1000 * p.orderConfirm) else none) := by
  cases d <;> simp [Ck4.place, Ck4.setSlot, Ck4.slot]
/-- R179: no other slot is touched. -/
@[simp] theorem place_slot_ne (e : Dest) (h : e ≠ d) : (p.place d o).slot e = p.slot e := by
  cases d <;> cases e <;> simp_all [Ck4.place, Ck4.setSlot, Ck4.slot]
/-- R179, R180: the slots, the list of those due and the frame in transmission are all of the plant link that may change. -/
theorem place_plantLink : (p.place d o).plantLink = { p.plantLink with
    machineSlots := (p.place d o).plantLink.machineSlots, vesselSlots := (p.place d o).plantLink.vesselSlots
    transmitList := (p.place d o).plantLink.transmitList, transmission := (p.place d o).plantLink.transmission } := by
  cases d <;> rfl
end place

/-! ### `post` -/

section post
variable (p : Ck4) (k : NoticeKind) (subject : Nat) (value : Int)
@[simp] theorem post_schedule : (p.post k subject value).schedule = p.schedule := rfl
@[simp] theorem post_inventory : (p.post k subject value).inventory = p.inventory := rfl
@[simp] theorem post_allocator : (p.post k subject value).allocator = p.allocator := rfl
@[simp] theorem post_sequencer : (p.post k subject value).sequencer = p.sequencer := rfl
@[simp] theorem post_dispatch : (p.post k subject value).dispatch = p.dispatch := rfl
@[simp] theorem post_protection : (p.post k subject value).protection = p.protection := rfl
@[simp] theorem post_time : (p.post k subject value).time = p.time := rfl
@[simp] theorem post_lines : (p.post k subject value).lines = p.lines := rfl
@[simp] theorem post_plantLink : (p.post k subject value).plantLink = p.plantLink := rfl
@[simp] theorem post_constants : (p.post k subject value).constants = p.constants := rfl
@[simp] theorem post_mach (m : MachineId) : (p.post k subject value).mach m = p.mach m := rfl
@[simp] theorem post_vessel (v : VesselId) : (p.post k subject value).vessel v = p.vessel v := rfl
@[simp] theorem post_binding (m : MachineId) : (p.post k subject value).binding m = p.binding m := rfl
@[simp] theorem post_slot (d : Dest) : (p.post k subject value).slot d = p.slot d := rfl
@[simp] theorem post_mode : (p.post k subject value).mode = p.mode := rfl
@[simp] theorem post_stamp : (p.post k subject value).stamp = p.stamp := rfl
@[simp] theorem post_notices : (p.post k subject value).station.notices =
    enqueueNotice p.station.notices ⟨k, p.stamp, subject, value⟩ := rfl
@[simp] theorem post_attention : (p.post k subject value).station.attentionPending =
    (p.station.attentionPending || p.station.notices.isEmpty) := rfl
end post

/-! ### States -/

section states
variable (s : State) (a : Answer) (p : Ck4) (rest : List Instr)
@[simp] theorem withPart_part : (s.withPart p).part = p := rfl
@[simp] theorem withPart_pending : (s.withPart p).pending = s.pending := rfl
@[simp] theorem withQueue_part : (s.withQueue rest).part = s.part := rfl
@[simp] theorem withQueue_pending : (s.withQueue rest).pending = rest := rfl
@[simp] theorem ended_part : (s.ended p).part = p.finish := rfl
@[simp] theorem ended_pending : (s.ended p).pending = s.pending := rfl
@[simp] theorem answered_part : (s.answered a p).part = (p.record a).finish := rfl
@[simp] theorem answered_pending : (s.answered a p).pending = s.pending := rfl
@[simp] theorem told_part : (s.told a).part = s.part.record a := rfl
@[simp] theorem told_pending : (s.told a).pending = s.pending := rfl
end states

/-! ### The three shapes of a meaning, and the checks before an owner (R187) -/

/-- A request that any mode takes, with a good payload, reaches its owner. -/
@[simp] theorem guard_any (p : Ck4) (op : Answer × Ck4) : p.guard true true op = op := by simp [Ck4.guard]

/-- Where the request's length is bad, no owner is reached. -/
@[simp] theorem guard_length (p : Ck4) (u : Bool) (op : Answer × Ck4) : p.guard false u op = (refuse .badLength, p) := by
  simp [Ck4.guard, Ck4.refused]

/-- R192: a request of a configured part, with a good payload, reaches its owner. -/
theorem guard_served (s : State) (h : s.served) (op : Answer × Ck4) : s.part.guard true false op = op := by
  have : ¬ (s.part.mode == .unconfigured) = true := by simpa [State.served] using h
  simp [Ck4.guard, this]

/-- R192: in UNCONFIGURED it is refused. -/
theorem guard_unconfigured (p : Ck4) (h : p.mode = .unconfigured) (op : Answer × Ck4) :
    p.guard true false op = (refuse .notConfigured, p) := by
  simp [Ck4.guard, h, Ck4.refused]

theorem event_eq (s : State) (f : Ck4 → Ck4) : s.event f = .next (s.ended (f s.part)) := rfl
theorem request_eq (s : State) (f : Ck4 → Answer × Ck4) : s.request f = .next (s.answered (f s.part).1 (f s.part).2) := rfl
theorem reading_eq (s : State) (f : Ck4 → Answer) : s.reading f = .next (s.told (f s.part)) := rfl

/-! ### `record` -/

section record
variable (p : Ck4) (a : Answer)
@[simp] theorem record_schedule : (p.record a).schedule = p.schedule := rfl
@[simp] theorem record_inventory : (p.record a).inventory = p.inventory := rfl
@[simp] theorem record_allocator : (p.record a).allocator = p.allocator := rfl
@[simp] theorem record_sequencer : (p.record a).sequencer = p.sequencer := rfl
@[simp] theorem record_dispatch : (p.record a).dispatch = p.dispatch := rfl
@[simp] theorem record_protection : (p.record a).protection = p.protection := rfl
@[simp] theorem record_time : (p.record a).time = p.time := rfl
@[simp] theorem record_lines : (p.record a).lines = p.lines := rfl
@[simp] theorem record_plantLink : (p.record a).plantLink = p.plantLink := rfl
@[simp] theorem record_constants : (p.record a).constants = p.constants := rfl
@[simp] theorem record_notices : (p.record a).station.notices = p.station.notices := rfl
@[simp] theorem record_attention : (p.record a).station.attentionPending = p.station.attentionPending := rfl
@[simp] theorem record_answer : (p.record a).station.answer = some a := rfl
@[simp] theorem record_mach (m : MachineId) : (p.record a).mach m = p.mach m := rfl
@[simp] theorem record_vessel (v : VesselId) : (p.record a).vessel v = p.vessel v := rfl
@[simp] theorem record_binding (m : MachineId) : (p.record a).binding m = p.binding m := rfl
@[simp] theorem record_slot (d : Dest) : (p.record a).slot d = p.slot d := rfl
@[simp] theorem record_mode : (p.record a).mode = p.mode := rfl
end record

/-! ### `setInput` -/

section setInput
variable (p : Ck4) (i : Nat) (l : InputLine)
@[simp] theorem setInput_input_self (h : i < p.lines.inputs.length) : (p.setInput i l).input i = l := by
  simp [Ck4.setInput, Ck4.input, h]
@[simp] theorem setInput_input_ne (j : Nat) (h : j ≠ i) : (p.setInput i l).input j = p.input j := by
  simp [Ck4.setInput, Ck4.input, List.getElem?_set_ne (Ne.symm h)]
@[simp] theorem setInput_length : (p.setInput i l).lines.inputs.length = p.lines.inputs.length := by simp [Ck4.setInput]
@[simp] theorem setInput_outputs : (p.setInput i l).lines.outputs = p.lines.outputs := rfl
@[simp] theorem setInput_schedule : (p.setInput i l).schedule = p.schedule := rfl
@[simp] theorem setInput_inventory : (p.setInput i l).inventory = p.inventory := rfl
@[simp] theorem setInput_allocator : (p.setInput i l).allocator = p.allocator := rfl
@[simp] theorem setInput_sequencer : (p.setInput i l).sequencer = p.sequencer := rfl
@[simp] theorem setInput_dispatch : (p.setInput i l).dispatch = p.dispatch := rfl
@[simp] theorem setInput_protection : (p.setInput i l).protection = p.protection := rfl
@[simp] theorem setInput_time : (p.setInput i l).time = p.time := rfl
@[simp] theorem setInput_plantLink : (p.setInput i l).plantLink = p.plantLink := rfl
@[simp] theorem setInput_station : (p.setInput i l).station = p.station := rfl
@[simp] theorem setInput_constants : (p.setInput i l).constants = p.constants := rfl
@[simp] theorem setInput_mach (m : MachineId) : (p.setInput i l).mach m = p.mach m := rfl
@[simp] theorem setInput_vessel (v : VesselId) : (p.setInput i l).vessel v = p.vessel v := rfl
@[simp] theorem setInput_binding (m : MachineId) : (p.setInput i l).binding m = p.binding m := rfl
@[simp] theorem setInput_slot (d : Dest) : (p.setInput i l).slot d = p.slot d := by cases d <;> rfl
@[simp] theorem setInput_source (j : Nat) : (p.setInput i l).source j = p.source j := rfl
@[simp] theorem setInput_mode : (p.setInput i l).mode = p.mode := rfl
end setInput

/-! ### `setSource` -/

section setSource
variable (p : Ck4) (i : Nat) (e : SourceEntry)
@[simp] theorem setSource_source_self (h : i < p.plantLink.sources.length) : (p.setSource i e).source i = e := by
  simp [Ck4.setSource, Ck4.source, h]
@[simp] theorem setSource_source_ne (j : Nat) (h : j ≠ i) : (p.setSource i e).source j = p.source j := by
  simp [Ck4.setSource, Ck4.source, List.getElem?_set_ne (Ne.symm h)]
@[simp] theorem setSource_length : (p.setSource i e).plantLink.sources.length = p.plantLink.sources.length := by
  simp [Ck4.setSource]
@[simp] theorem setSource_schedule : (p.setSource i e).schedule = p.schedule := rfl
@[simp] theorem setSource_inventory : (p.setSource i e).inventory = p.inventory := rfl
@[simp] theorem setSource_allocator : (p.setSource i e).allocator = p.allocator := rfl
@[simp] theorem setSource_sequencer : (p.setSource i e).sequencer = p.sequencer := rfl
@[simp] theorem setSource_dispatch : (p.setSource i e).dispatch = p.dispatch := rfl
@[simp] theorem setSource_protection : (p.setSource i e).protection = p.protection := rfl
@[simp] theorem setSource_time : (p.setSource i e).time = p.time := rfl
@[simp] theorem setSource_lines : (p.setSource i e).lines = p.lines := rfl
@[simp] theorem setSource_station : (p.setSource i e).station = p.station := rfl
@[simp] theorem setSource_constants : (p.setSource i e).constants = p.constants := rfl
@[simp] theorem setSource_mach (m : MachineId) : (p.setSource i e).mach m = p.mach m := rfl
@[simp] theorem setSource_vessel (v : VesselId) : (p.setSource i e).vessel v = p.vessel v := rfl
@[simp] theorem setSource_binding (m : MachineId) : (p.setSource i e).binding m = p.binding m := rfl
@[simp] theorem setSource_slot (d : Dest) : (p.setSource i e).slot d = p.slot d := by cases d <;> rfl
@[simp] theorem setSource_input (j : Nat) : (p.setSource i e).input j = p.input j := rfl
@[simp] theorem setSource_mode : (p.setSource i e).mode = p.mode := rfl
end setSource

/-! ### `huntPlant` -/

section huntPlant
variable (p : Ck4)
@[simp] theorem huntPlant_phase : p.huntPlant.plantLink.phase = .hunt := rfl
@[simp] theorem huntPlant_inProgress : p.huntPlant.plantLink.inProgress = none := rfl
@[simp] theorem huntPlant_lastByte : p.huntPlant.plantLink.lastByte = none := rfl
@[simp] theorem huntPlant_queue : p.huntPlant.plantLink.queue = p.plantLink.queue := rfl
@[simp] theorem huntPlant_framingErrors : p.huntPlant.plantLink.framingErrors = p.plantLink.framingErrors := rfl
@[simp] theorem huntPlant_schedule : p.huntPlant.schedule = p.schedule := rfl
@[simp] theorem huntPlant_inventory : p.huntPlant.inventory = p.inventory := rfl
@[simp] theorem huntPlant_allocator : p.huntPlant.allocator = p.allocator := rfl
@[simp] theorem huntPlant_sequencer : p.huntPlant.sequencer = p.sequencer := rfl
@[simp] theorem huntPlant_dispatch : p.huntPlant.dispatch = p.dispatch := rfl
@[simp] theorem huntPlant_protection : p.huntPlant.protection = p.protection := rfl
@[simp] theorem huntPlant_time : p.huntPlant.time = p.time := rfl
@[simp] theorem huntPlant_lines : p.huntPlant.lines = p.lines := rfl
@[simp] theorem huntPlant_station : p.huntPlant.station = p.station := rfl
@[simp] theorem huntPlant_constants : p.huntPlant.constants = p.constants := rfl
@[simp] theorem huntPlant_mach (m : MachineId) : p.huntPlant.mach m = p.mach m := rfl
@[simp] theorem huntPlant_vessel (v : VesselId) : p.huntPlant.vessel v = p.vessel v := rfl
@[simp] theorem huntPlant_binding (m : MachineId) : p.huntPlant.binding m = p.binding m := rfl
@[simp] theorem huntPlant_slot (d : Dest) : p.huntPlant.slot d = p.slot d := by cases d <;> rfl
@[simp] theorem huntPlant_source (j : Nat) : p.huntPlant.source j = p.source j := rfl
@[simp] theorem huntPlant_input (j : Nat) : p.huntPlant.input j = p.input j := rfl
@[simp] theorem huntPlant_mode : p.huntPlant.mode = p.mode := rfl
end huntPlant

/-! ### `giveUpFrame` -/

section giveUpFrame
variable (p : Ck4)
@[simp] theorem giveUpFrame_phase : p.giveUpFrame.station.phase = .hunt := rfl
@[simp] theorem giveUpFrame_inProgress : p.giveUpFrame.station.inProgress = none := rfl
@[simp] theorem giveUpFrame_queue : p.giveUpFrame.station.queue = p.station.queue := rfl
@[simp] theorem giveUpFrame_tx : p.giveUpFrame.station.tx = p.station.tx := rfl
@[simp] theorem giveUpFrame_sending : p.giveUpFrame.station.sending = p.station.sending := rfl
@[simp] theorem giveUpFrame_schedule : p.giveUpFrame.schedule = p.schedule := rfl
@[simp] theorem giveUpFrame_inventory : p.giveUpFrame.inventory = p.inventory := rfl
@[simp] theorem giveUpFrame_allocator : p.giveUpFrame.allocator = p.allocator := rfl
@[simp] theorem giveUpFrame_sequencer : p.giveUpFrame.sequencer = p.sequencer := rfl
@[simp] theorem giveUpFrame_dispatch : p.giveUpFrame.dispatch = p.dispatch := rfl
@[simp] theorem giveUpFrame_protection : p.giveUpFrame.protection = p.protection := rfl
@[simp] theorem giveUpFrame_time : p.giveUpFrame.time = p.time := rfl
@[simp] theorem giveUpFrame_lines : p.giveUpFrame.lines = p.lines := rfl
@[simp] theorem giveUpFrame_plantLink : p.giveUpFrame.plantLink = p.plantLink := rfl
@[simp] theorem giveUpFrame_constants : p.giveUpFrame.constants = p.constants := rfl
@[simp] theorem giveUpFrame_mach (m : MachineId) : p.giveUpFrame.mach m = p.mach m := rfl
@[simp] theorem giveUpFrame_vessel (v : VesselId) : p.giveUpFrame.vessel v = p.vessel v := rfl
@[simp] theorem giveUpFrame_binding (m : MachineId) : p.giveUpFrame.binding m = p.binding m := rfl
@[simp] theorem giveUpFrame_slot (d : Dest) : p.giveUpFrame.slot d = p.slot d := by cases d <;> rfl
@[simp] theorem giveUpFrame_source (j : Nat) : p.giveUpFrame.source j = p.source j := rfl
@[simp] theorem giveUpFrame_input (j : Nat) : p.giveUpFrame.input j = p.input j := rfl
@[simp] theorem giveUpFrame_mode : p.giveUpFrame.mode = p.mode := rfl
end giveUpFrame

end Sys2Proof.Machine
end

