-- ==== Sys2Proof/Laws/Notices.lean ====
section
/-! SUPPORT. The notice queue keeps its form (R189): one lemma for the queue's one operation that adds, one for the one that
takes. -/

namespace Sys2Proof.Machine

/-- R189 as the form of a queue: OVERFLOW stands only at its end, and 32 notices are held only with one there. -/
theorem noticesForm_iff (l : List Notice) : noticesForm l = true ↔
    (∀ n ∈ l.dropLast, n.kind ≠ .overflow) ∧ (l.length ≤ 31 ∨ (l.length = 32 ∧ ∃ n, l.getLast? = some n ∧ n.kind = .overflow)) := by
  cases h : l.getLast? with
  | none => simp only [List.getLast?_eq_none_iff] at h; simp [h, noticesForm, noticesOk]
  | some x =>
    by_cases hk : x.kind = .overflow <;> 
        simp [noticesForm, noticesOk, h, hk] <;> simp only [Config.noticeQueueSize]
    · constructor
      · rintro ⟨h1, h2⟩
        exact ⟨h2, by omega⟩
      · rintro ⟨h1, h2⟩
        exact ⟨by omega, h1⟩
    · constructor
      · rintro ⟨⟨h1, h2⟩, h3⟩
        exact ⟨h2, by omega⟩
      · rintro ⟨h1, h2⟩
        exact ⟨⟨by omega, h1⟩, by omega⟩

/-- R189: a notice posted is put into the queue; the lemmas after it take a list of notices apart. -/
theorem Ck4.post_queueAfter (p : Ck4) (k : NoticeKind) (subject : Nat) (value : Int) :
    (p.post k subject value).station.notices = queueAfter p.station.notices [⟨k, p.stamp, subject, value⟩] := rfl
@[simp] theorem queueAfter_nil (q : List Notice) : queueAfter q [] = q := rfl
theorem queueAfter_append (q ns ms : List Notice) : queueAfter q (ns ++ ms) = queueAfter (queueAfter q ns) ms :=
  List.foldl_append

/-- R189: a notice put into a queue of the form leaves a queue of the form. -/
theorem enqueueNotice_form (l : List Notice) (n : Notice) (h : noticesForm l = true) : noticesForm (enqueueNotice l n) = true := by
  rw [noticesForm_iff] at h ⊢
  obtain ⟨hd, hl⟩ := h
  unfold enqueueNotice
  cases hg : l.getLast? with
  | none => simp
  | some last =>
    have hne : l ≠ [] := by intro e; simp [e] at hg
    have hlen : l.dropLast.length + 1 = l.length := by
      have := List.length_pos_of_ne_nil hne; simp only [List.length_dropLast]; omega
    by_cases ho : last.kind = .overflow
    · simp only [ho, beq_self_eq_true, if_true, List.length_append, List.length_singleton, List.dropLast_concat,
        List.getLast?_concat, Option.some.injEq, exists_eq_left', and_true]
      exact ⟨hd, by omega⟩
    · have hall : ∀ x ∈ l, x.kind ≠ .overflow := by
        intro x hx
        rw [← List.dropLast_append_getLast? last hg] at hx
        rcases List.mem_append.1 hx with hx | hx
        · exact hd x hx
        · rw [List.mem_singleton.1 hx]; exact ho
      have h31 : l.length ≤ 31 := by
        rcases hl with hl | ⟨-, n', hn', hk⟩
        · exact hl
        · rw [hg] at hn'; exact absurd ((Option.some.inj hn') ▸ hk) ho
      simp only [beq_iff_eq, ho, if_false, Config.noticeQueueSize]
      by_cases hs : l.length < 32 - 1
      · simp only [hs, if_true]
        simp only [List.dropLast_concat, List.length_append, List.length_singleton]
        exact ⟨hall, by omega⟩
      · simp only [hs, if_false]
        simp only [List.dropLast_concat, List.length_append, List.length_singleton, List.getLast?_concat, Option.some.injEq,
          exists_eq_left', and_true]
        exact ⟨hall, by omega⟩

/-- No queue is empty after a notice is put into it. -/
theorem enqueueNotice_ne_nil (l : List Notice) (n : Notice) : enqueueNotice l n ≠ [] := by
  unfold enqueueNotice
  split
  · split
    · simp
    · split <;> simp
  · simp

/-- R190: a queue of the form from which the oldest notices are taken keeps the form. -/
theorem drop_form (l : List Notice) (k : Nat) (h : noticesForm l = true) : noticesForm (l.drop k) = true := by
  rw [noticesForm_iff] at h ⊢
  obtain ⟨hd, hl⟩ := h
  have hlen := List.length_drop (l := l) (i := k)
  refine ⟨fun n hn => hd n ?_, ?_⟩
  · rw [List.dropLast_eq_take] at hn ⊢
    rw [List.take_drop] at hn
    have := List.mem_of_mem_drop hn
    by_cases hk : k < l.length
    · have e : k + ((l.drop k).length - 1) = l.length - 1 := by omega
      rwa [e] at this
    · simp [List.drop_eq_nil_of_le (Nat.le_of_not_lt hk)] at hn
  · rcases hl with hl | ⟨h32, n, hg, hk⟩
    · exact .inl (by omega)
    · cases k with
      | zero => exact .inr ⟨by simpa using h32, n, by simpa using hg, hk⟩
      | succ k => exact .inl (by omega)

end Sys2Proof.Machine
end

