-- ==== Sys2Proof/Laws/Allots.lean ====
section
/-! SUPPORT. What the allocator's own operations may change: `Allots p q` says that from `p` to `q` only vessel records (but
their held flags), bindings, the tree, order slots with the lists that send them, and the notice queue have moved, and that the
notice queue keeps its form. -/

namespace Sys2Proof.Machine

/-! ### What stays -/

/-- A vessel record of which only the held flag is kept. -/
def VesselRecord.heldOnly (r : VesselRecord) : VesselRecord := { VesselRecord.powerOn with held := r.held }

/-- The allocator without what its own operations move. -/
def Allocator.outside (a : Allocator) : Allocator :=
  { a with
    vessels := ⟨a.vessels.v0.heldOnly, a.vessels.v1.heldOnly, a.vessels.v2.heldOnly, a.vessels.v3.heldOnly,
      a.vessels.v4.heldOnly, a.vessels.v5.heldOnly, a.vessels.v6.heldOnly, a.vessels.v7.heldOnly⟩
    tree := ⟨false, false, false, false, false, false, false⟩, bindings := .all .powerOn }

/-- The plant link without its slots, the list of those due and the frame in transmission. -/
def PlantLink.outside (l : PlantLink) : PlantLink :=
  { l with machineSlots := .all .powerOn, vesselSlots := .all .powerOn, transmitList := [], transmission := none }

/-- The station link without its notices. -/
def StationLink.outside (l : StationLink) : StationLink := { l with notices := [], attentionPending := false }

/-- The part without what the allocator's operations move. -/
def Ck4.allotFrame (p : Ck4) : Ck4 :=
  { p with allocator := p.allocator.outside, plantLink := p.plantLink.outside, station := p.station.outside }

/-- From `p` to `q` only what the allocator's operations move has moved, and the notice queue has kept its form. -/
structure Ck4.Allots (p q : Ck4) : Prop where
  frame : q.allotFrame = p.allotFrame
  notices : noticesForm p.station.notices = true → noticesForm q.station.notices = true
  attention : p.attentionOk = true → q.attentionOk = true

theorem Ck4.Allots.refl (p : Ck4) : p.Allots p := ⟨rfl, id, id⟩

theorem Ck4.Allots.trans {p q r : Ck4} (h : p.Allots q) (k : q.Allots r) : p.Allots r :=
  ⟨k.frame.trans h.frame, k.notices ∘ h.notices, k.attention ∘ h.attention⟩

/-- A frame that leaves the notices alone. -/
theorem Ck4.Allots.of_frame {p q : Ck4} (h : q.allotFrame = p.allotFrame) (hs : q.station = p.station) : p.Allots q :=
  ⟨h, by rw [hs]; exact id, by unfold Ck4.attentionOk; rw [hs]; exact id⟩

theorem Ck4.Allots.ite {p q r : Ck4} {c : Prop} [Decidable c] (h : p.Allots q) (k : p.Allots r) : p.Allots (if c then q else r) := by
  split <;> assumption

theorem Ck4.Allots.foldl {α : Type} (f : Ck4 → α → Ck4) (h : ∀ (p : Ck4) (x : α), p.Allots (f p x)) (l : List α) (p : Ck4) :
    p.Allots (l.foldl f p) := by
  induction l generalizing p with
  | nil => exact .refl p
  | cons x l ih => exact (h p x).trans (ih _)

section fields
variable {p q : Ck4} (h : p.Allots q)
include h
theorem Ck4.Allots.schedule : q.schedule = p.schedule := (congrArg Ck4.schedule h.frame :)
theorem Ck4.Allots.inventory : q.inventory = p.inventory := (congrArg Ck4.inventory h.frame :)
theorem Ck4.Allots.sequencer : q.sequencer = p.sequencer := (congrArg Ck4.sequencer h.frame :)
theorem Ck4.Allots.dispatch : q.dispatch = p.dispatch := (congrArg Ck4.dispatch h.frame :)
theorem Ck4.Allots.protection : q.protection = p.protection := (congrArg Ck4.protection h.frame :)
theorem Ck4.Allots.time : q.time = p.time := (congrArg Ck4.time h.frame :)
theorem Ck4.Allots.lines : q.lines = p.lines := (congrArg Ck4.lines h.frame :)
theorem Ck4.Allots.constants : q.constants = p.constants := (congrArg Ck4.constants h.frame :)
theorem Ck4.Allots.sources : q.plantLink.sources = p.plantLink.sources := (congrArg (fun x => x.plantLink.sources) h.frame :)
theorem Ck4.Allots.hold : q.allocator.hold = p.allocator.hold := (congrArg (fun x => x.allocator.hold) h.frame :)
theorem Ck4.Allots.freeze : q.allocator.freeze = p.allocator.freeze := (congrArg (fun x => x.allocator.freeze) h.frame :)
theorem Ck4.Allots.held (v : VesselId) : (q.vessel v).held = (p.vessel v).held := by
  have e := congrArg (fun x => (x.allocator.vessels.get v).held) h.frame
  cases v <;> exact e
theorem Ck4.Allots.mach (m : MachineId) : q.mach m = p.mach m := by simp only [Ck4.mach, h.sequencer]
theorem Ck4.Allots.mode : q.mode = p.mode := by simp only [Ck4.mode, h.constants]
theorem Ck4.Allots.dirInService (d : Dir) : q.dirInService d = p.dirInService d := by simp only [Ck4.dirInService, h.mach]
end fields

/-! ### The shared operations -/

theorem post_allots (p : Ck4) (k : NoticeKind) (n : Nat) (z : Int) : p.Allots (p.post k n z) where
  frame := rfl
  notices h := enqueueNotice_form _ _ h
  attention h := by
    have : (enqueueNotice p.station.notices ⟨k, p.stamp, n, z⟩).isEmpty = false := by
      simpa [List.isEmpty_eq_false_iff] using enqueueNotice_ne_nil _ _
    simp only [Ck4.attentionOk, beq_iff_eq] at h ⊢
    simp only [post_attention, post_notices, this, h]
    cases p.station.notices.isEmpty <;> rfl

theorem setBinding_allots (p : Ck4) (m : MachineId) (b : Binding) : p.Allots (p.setBinding m b) := .of_frame rfl rfl

theorem setSlot_allots (p : Ck4) (d : Dest) (x : Slot) : p.Allots (p.setSlot d x) := by cases d <;> exact .of_frame rfl rfl

theorem place_allots (p : Ck4) (d : Dest) (o : Order) : p.Allots (p.place d o) := by cases d <;> exact .of_frame rfl rfl

/-- A vessel record replaced by one with the same held flag. -/
theorem setVessel_allots (p : Ck4) (v : VesselId) (r : VesselRecord) (h : r.held = (p.vessel v).held) :
    p.Allots (p.setVessel v r) := by
  refine .of_frame ?_ rfl
  cases v <;> simp only [Ck4.allotFrame, Ck4.setVessel, PerVessel.set, Allocator.outside, VesselRecord.heldOnly, h] <;> rfl

theorem setTree_allots (p : Ck4) (t : Tree) : p.Allots { p with allocator := { p.allocator with tree := t } } := .of_frame rfl rfl

theorem setUse_allots (p : Ck4) (v : VesselId) (u : UseState) : p.Allots (p.setUse v u) := setVessel_allots _ _ _ rfl

theorem freeVessel_allots (p : Ck4) (v : VesselId) : p.Allots (p.freeVessel v) :=
  (place_allots _ _ _).trans (setUse_allots _ _ _)

theorem freeVessel?_allots (p : Ck4) (v : Option VesselId) : p.Allots (p.freeVessel? v) := by
  cases v
  · exact .refl p
  · exact freeVessel_allots _ _

/-- R69, R70, R72. -/
theorem allocate_allots (p : Ck4) (m : MachineId) (v : VesselId) (c : SwitchCause) : p.Allots (p.allocate m v c) := by
  have h : p.Allots (match (p.binding m).bound with | none => p | some w => p.setUse w (.switchingOut m)) := by
    split
    · exact .refl p
    · exact setUse_allots _ _ _
  exact (((h.trans (setUse_allots _ _ _)).trans (place_allots _ _ _)).trans (setBinding_allots _ _ _)).trans (setTree_allots _ _)

theorem postSwitched_allots (p : Ck4) (m : MachineId) (a b : Nat) : p.Allots (p.postSwitched m a b) := post_allots _ _ _ _

theorem enterBypass_allots (p : Ck4) (m : MachineId) : p.Allots (p.enterBypass m) :=
  ((freeVessel?_allots _ _).trans (setBinding_allots _ _ _)).trans (postSwitched_allots _ _ _ _)

/-- R70. -/
theorem requestVessel_allots (p : Ck4) (m : MachineId) : p.Allots (p.requestVessel m).2 := by
  unfold Ck4.requestVessel
  split
  · exact allocate_allots _ _ _ _
  · split
    · exact enterBypass_allots _ _
    · exact .refl p

/-- R73. -/
theorem releaseHeld_allots (p : Ck4) : p.Allots p.releaseHeld := by
  unfold Ck4.releaseHeld
  simp only
  split
  · exact allocate_allots _ _ _ _
  · exact .refl p

/-- R76. -/
theorem exitBypass_allots (p : Ck4) (m : MachineId) : p.Allots (p.exitBypass m) := by
  unfold Ck4.exitBypass
  split
  · split
    · exact allocate_allots _ _ _ _
    · exact .refl p
  · exact .refl p

theorem takeDischargeEligible_allots (p : Ck4) (v : VesselId) : p.Allots (p.takeDischargeEligible v) := by
  unfold Ck4.takeDischargeEligible
  split
  · exact releaseHeld_allots p
  · exact .refl p

/-- R73, R76: vessels that have become eligible are taken. -/
theorem takeEligible_allots (b p : Ck4) : p.Allots (Ck4.takeEligible b p) :=
  (Ck4.Allots.ite (Ck4.Allots.foldl _ exitBypass_allots _ _) (.refl p)).trans (Ck4.Allots.foldl _ takeDischargeEligible_allots _ _)

theorem abandonTarget_allots (p : Ck4) (m : MachineId) (w : Bool) : p.Allots (p.abandonTarget m w) :=
  ((freeVessel?_allots _ _).trans (.ite (freeVessel?_allots _ _) (.refl _))).trans (setBinding_allots _ _ _)

theorem endBypass_allots (p : Ck4) (m : MachineId) : p.Allots (p.endBypass m) := setBinding_allots _ _ _

theorem releaseBound_allots (p : Ck4) (m : MachineId) : p.Allots (p.releaseBound m) :=
  (freeVessel?_allots _ _).trans (setBinding_allots _ _ _)

/-- R77. -/
theorem endBindings_allots (p : Ck4) (m : MachineId) (o n : MachineState) : p.Allots (p.endBindings m o n) := by
  have h1 : p.Allots (
      if (p.binding m).target.isSome && o == .loading && n != .loaded then p.abandonTarget m false
      else if (p.binding m).target.isSome && (o == .loaded || n == .tripped) then p.abandonTarget m true else p) :=
    .ite (abandonTarget_allots _ _ _) (.ite (abandonTarget_allots _ _ _) (.refl p))
  exact (h1.trans (.ite (endBypass_allots _ _) (.refl _))).trans (.ite (releaseBound_allots _ _) (.refl _))

theorem degrade_allots (p : Ck4) (v : VesselId) : p.Allots (p.degrade v) := setVessel_allots _ _ _ rfl

theorem restoreBound_allots (p : Ck4) (m : MachineId) : p.Allots (p.restoreBound m) := by
  unfold Ck4.restoreBound
  split
  · exact .refl p
  · exact setUse_allots _ _ _

/-- R78. -/
theorem isolate_allots (p : Ck4) (v : VesselId) : p.Allots (p.isolate v) := (place_allots _ _ _).trans (setUse_allots _ _ _)

end Sys2Proof.Machine
end

