-- ==== Sys2Proof/Laws/Calendar.lean ====
section
/-! SUPPORT. What a run of plant time moves (R155), and interval records: what a record reads as after another is replaced, after
gate closure, and after the pages are established (R2, R3, R6). -/

namespace Sys2Proof.Machine

/-! ### The elapsed count and its timers (R155) -/

section runTo
variable (p : Ck4) (t : TimeBase)
@[simp] theorem runTo_time : (p.runTo t).time = { t with elapsed := p.time.elapsed + (t.instant - p.time.instant) } := rfl
@[simp] theorem runTo_inventory : (p.runTo t).inventory = p.inventory := rfl
@[simp] theorem runTo_protection : (p.runTo t).protection = p.protection := rfl
@[simp] theorem runTo_lines : (p.runTo t).lines = p.lines := rfl
@[simp] theorem runTo_station : (p.runTo t).station = p.station := rfl
@[simp] theorem runTo_constants : (p.runTo t).constants = p.constants := rfl
@[simp] theorem runTo_windows : (p.runTo t).schedule.windows = p.schedule.windows := rfl
@[simp] theorem runTo_pages (i : Nat) : (p.runTo t).schedule.record i = p.schedule.record i := rfl
@[simp] theorem runTo_mach (m : MachineId) :
    (p.runTo t).mach m = (p.mach m).tick (t.instant - p.time.instant) := by cases m <;> rfl
@[simp] theorem runTo_binding (m : MachineId) :
    (p.runTo t).binding m = (p.binding m).tick (t.instant - p.time.instant) := by cases m <;> rfl
@[simp] theorem runTo_vessel (v : VesselId) : (p.runTo t).vessel v = p.vessel v := rfl
@[simp] theorem runTo_slot (d : Dest) : (p.runTo t).slot d = (p.slot d).tick (t.instant - p.time.instant) := by
  rcases d with m | v <;> [cases m; cases v] <;> rfl
end runTo

/-! ### Interval records -/

/-- The record of an absolute interval index that has been replaced reads as what replaced it. -/
theorem record_setRecord_self (s : Schedule) (i : Nat) (r : IntervalRecord) (hc : s.currentPage.length = 96)
    (hn : s.nextPage.length = 96) (hi : i < 192) : (s.setRecord i r).record i = r := by
  unfold Schedule.setRecord Schedule.record
  by_cases h : i < 96
  · simp [h, List.getD, hc]
  · have : i - 96 < 96 := by omega
    simp [h, List.getD, hn, this]

/-- No other record moves. -/
theorem record_setRecord_ne (s : Schedule) (i j : Nat) (r : IntervalRecord) (h : j ≠ i) : (s.setRecord i r).record j = s.record j := by
  unfold Schedule.setRecord Schedule.record
  by_cases hi : i < 96 <;> by_cases hj : j < 96 <;> simp [hi, hj, List.getD]
  · rw [List.getElem?_set_ne (by omega)]
  · rw [List.getElem?_set_ne (by omega)]

theorem setRecord_lengths (s : Schedule) (i : Nat) (r : IntervalRecord) :
    (s.setRecord i r).currentPage.length = s.currentPage.length ∧ (s.setRecord i r).nextPage.length = s.nextPage.length := by
  unfold Schedule.setRecord; split <;> simp

/-- Of the schedule, replacing a record moves the two pages alone. -/
theorem setRecord_rest (s : Schedule) (i : Nat) (r : IntervalRecord) :
    (s.setRecord i r).day = s.day ∧ (s.setRecord i r).windows = s.windows ∧ (s.setRecord i r).staging = s.staging := by
  unfold Schedule.setRecord; split <;> exact ⟨rfl, rfl, rfl⟩

/-- R6: gate closure of some intervals moves no record before the first of them or after the last, and nothing but pages. -/
theorem closeGate_other (s : Schedule) (i n j : Nat) (h : j < i ∨ i + n ≤ j) : (s.closeGate i n).record j = s.record j := by
  induction n generalizing s i with
  | zero => rfl
  | succ n ih =>
    unfold Schedule.closeGate
    rw [ih _ _ (by omega), record_setRecord_ne _ _ _ _ (by omega)]

theorem closeGate_rest (s : Schedule) (i n : Nat) : (s.closeGate i n).day = s.day ∧ (s.closeGate i n).windows = s.windows ∧
    (s.closeGate i n).staging = s.staging ∧ (s.closeGate i n).currentPage.length = s.currentPage.length ∧
    (s.closeGate i n).nextPage.length = s.nextPage.length := by
  induction n generalizing s i with
  | zero => exact ⟨rfl, rfl, rfl, rfl, rfl⟩
  | succ n ih =>
    unfold Schedule.closeGate
    obtain ⟨h1, h2, h3, h4, h5⟩ := ih (s.setRecord i (s.record i).close) (i + 1)
    obtain ⟨g1, g2, g3⟩ := setRecord_rest s i (s.record i).close
    obtain ⟨g4, g5⟩ := setRecord_lengths s i (s.record i).close
    exact ⟨h1.trans g1, h2.trans g2, h3.trans g3, h4.trans g4, h5.trans g5⟩

/-- R6: gate closure fixes each record that it reaches. -/
theorem closeGate_record (s : Schedule) (i n j : Nat) (hc : s.currentPage.length = 96) (hn : s.nextPage.length = 96)
    (h : i ≤ j) (hj : j < i + n) (hb : j < 192) : (s.closeGate i n).record j = (s.record j).close := by
  induction n generalizing s i with
  | zero => omega
  | succ n ih =>
    obtain ⟨g4, g5⟩ := setRecord_lengths s i (s.record i).close
    unfold Schedule.closeGate
    by_cases e : j = i
    · subst e
      rw [closeGate_other _ _ _ _ (by omega), record_setRecord_self _ _ _ hc hn hb]
    · rw [ih _ _ (g4.trans hc) (g5.trans hn) (by omega) (by omega), record_setRecord_ne _ _ _ _ e]

/-- R3: what the pages hold before the interval they are brought to. -/
theorem settleBefore_record (s : Schedule) (k j : Nat) (hc : s.currentPage.length = 96) (hn : s.nextPage.length = 96)
    (hk : k ≤ 192) :
    (s.settleBefore k).record j = if j < k then { IntervalRecord.blank with status := .settled } else s.record j := by
  have hl (k : Nat) : (s.settleBefore k).currentPage.length = 96 ∧ (s.settleBefore k).nextPage.length = 96 := by
    induction k with
    | zero => exact ⟨hc, hn⟩
    | succ k ih =>
      obtain ⟨g4, g5⟩ := setRecord_lengths (s.settleBefore k) k { IntervalRecord.blank with status := .settled }
      exact ⟨g4.trans ih.1, g5.trans ih.2⟩
  induction k with
  | zero => simp [Schedule.settleBefore]
  | succ k ih =>
    unfold Schedule.settleBefore
    by_cases e : j = k
    · subst e
      rw [record_setRecord_self _ _ _ (hl _).1 (hl _).2 (by omega), if_pos (by omega)]
    · rw [record_setRecord_ne _ _ _ _ e, ih (by omega)]
      by_cases h : j < k
      · rw [if_pos h, if_pos (by omega)]
      · rw [if_neg h, if_neg (by omega)]

/-- R3: what the pages hold after it, under the gate lead. -/
theorem dropFrom_record (s : Schedule) (i n j : Nat) (hc : s.currentPage.length = 96) (hn : s.nextPage.length = 96)
    (hb : i + n ≤ 192) : (s.dropFrom i n).record j =
      if i ≤ j ∧ j < i + n then { s.record j with status := .dropped, committed := false } else s.record j := by
  induction n generalizing s i with
  | zero => rw [if_neg (by omega)]; rfl
  | succ n ih =>
    obtain ⟨g4, g5⟩ := setRecord_lengths s i { s.record i with status := .dropped, committed := false }
    unfold Schedule.dropFrom
    rw [ih _ _ (g4.trans hc) (g5.trans hn) (by omega)]
    by_cases e : j = i
    · subst e
      rw [if_neg (by omega), if_pos (by omega), record_setRecord_self _ _ _ hc hn (by omega)]
    · rw [record_setRecord_ne _ _ _ _ e]
      by_cases h : i ≤ j ∧ j < i + (n + 1)
      · rw [if_pos h, if_pos (by omega)]
      · rw [if_neg h, if_neg (by omega)]

end Sys2Proof.Machine
end

