-- ==== Sys2Proof/Laws/Choices.lean ====
section
/-! SUPPORT. What the choices answer: the machine of lowest and of highest EOH (R84, R94), the vessel of greatest heat (R68),
the caps of a resolved power (R22), and when a power lies within a rating sum (R18, R129). -/

namespace Sys2Proof.Machine

/-! ### Sums -/

theorem foldl_add (l : List Nat) (a : Nat) : l.foldl (· + ·) a = a + sumNat l := by
  induction l generalizing a with
  | nil => rfl
  | cons x l ih =>
    simp only [sumNat, List.foldl_cons] at ih ⊢
    rw [ih (a + x), ih (0 + x)]; omega

@[simp] theorem sumNat_nil : sumNat [] = 0 := rfl

@[simp] theorem sumNat_cons (x : Nat) (l : List Nat) : sumNat (x :: l) = x + sumNat l := by
  have := foldl_add l x
  simp only [sumNat, List.foldl_cons, Nat.zero_add] at this ⊢
  exact this

/-! ### EOH (R84, R94) -/

/-- R84: the list has a machine of lowest EOH unless it is empty, and of those that share it the answer stands first. -/
theorem lowestEoh_spec (e : MachineId → Nat) (l : List MachineId) :
    (lowestEoh e l = none → l = []) ∧
    (∀ m, lowestEoh e l = some m → ∃ a b, l = a ++ m :: b ∧ (∀ k ∈ a, e m < e k) ∧ ∀ k ∈ b, e m ≤ e k) := by
  induction l with
  | nil => exact ⟨fun _ => rfl, nofun⟩
  | cons x l ih =>
    unfold lowestEoh
    cases h : lowestEoh e l with
    | none =>
      refine ⟨nofun, fun m hm => ?_⟩
      obtain rfl := Option.some.inj hm
      exact ⟨[], l, rfl, nofun, by rw [ih.1 h]; nofun⟩
    | some n =>
      obtain ⟨a, b, rfl, ha, hb⟩ := ih.2 n h
      refine ⟨by dsimp only; split <;> nofun, fun m hm => ?_⟩
      dsimp only at hm
      split at hm <;> obtain rfl := Option.some.inj hm
      · next hlt => exact ⟨x :: a, b, rfl, by simpa [hlt] using ha, hb⟩
      · next hge =>
        refine ⟨[], _, rfl, nofun, fun k hk => ?_⟩
        rcases List.mem_append.1 hk with hk | hk
        · have := ha k hk; omega
        · rcases List.mem_cons.1 hk with rfl | hk
          · omega
          · have := hb k hk; omega

/-- R94: the list has a machine of highest EOH unless it is empty, and of those that share it the answer stands last. -/
theorem highestEoh_spec (e : MachineId → Nat) (l : List MachineId) :
    (highestEoh e l = none → l = []) ∧
    (∀ m, highestEoh e l = some m → ∃ a b, l = a ++ m :: b ∧ (∀ k ∈ a, e k ≤ e m) ∧ ∀ k ∈ b, e k < e m) := by
  induction l with
  | nil => exact ⟨fun _ => rfl, nofun⟩
  | cons x l ih =>
    unfold highestEoh
    cases h : highestEoh e l with
    | none =>
      refine ⟨nofun, fun m hm => ?_⟩
      obtain rfl := Option.some.inj hm
      exact ⟨[], l, rfl, nofun, by rw [ih.1 h]; nofun⟩
    | some n =>
      obtain ⟨a, b, rfl, ha, hb⟩ := ih.2 n h
      refine ⟨by dsimp only; split <;> nofun, fun m hm => ?_⟩
      dsimp only at hm
      split at hm <;> obtain rfl := Option.some.inj hm
      · next hge => exact ⟨x :: a, b, rfl, by simpa [hge] using ha, hb⟩
      · next hlt =>
        refine ⟨[], _, rfl, nofun, fun k hk => ?_⟩
        rcases List.mem_append.1 hk with hk | hk
        · have := ha k hk; omega
        · rcases List.mem_cons.1 hk with rfl | hk
          · omega
          · have := hb k hk; omega

/-! ### Heat (R68) -/

/-- R68: the list has a vessel of greatest heat unless it is empty, and of those that share it the answer stands first. -/
theorem greatestHeat_spec (h : VesselId → Nat) (l : List VesselId) :
    (greatestHeat h l = none → l = []) ∧
    (∀ v, greatestHeat h l = some v → ∃ a b, l = a ++ v :: b ∧ (∀ w ∈ a, h w < h v) ∧ ∀ w ∈ b, h w ≤ h v) := by
  induction l with
  | nil => exact ⟨fun _ => rfl, nofun⟩
  | cons x l ih =>
    unfold greatestHeat
    cases hl : greatestHeat h l with
    | none =>
      refine ⟨nofun, fun v hv => ?_⟩
      obtain rfl := Option.some.inj hv
      exact ⟨[], l, rfl, nofun, by rw [ih.1 hl]; nofun⟩
    | some n =>
      obtain ⟨a, b, rfl, ha, hb⟩ := ih.2 n hl
      refine ⟨by dsimp only; split <;> nofun, fun v hv => ?_⟩
      dsimp only at hv
      split at hv <;> obtain rfl := Option.some.inj hv
      · next hgt => exact ⟨x :: a, b, rfl, by simpa [hgt] using ha, hb⟩
      · next hle =>
        refine ⟨[], _, rfl, nofun, fun k hk => ?_⟩
        rcases List.mem_append.1 hk with hk | hk
        · have := ha k hk; omega
        · rcases List.mem_cons.1 hk with rfl | hk
          · omega
          · have := hb k hk; omega

/-! ### Caps (R22) -/

theorem foldl_min_le (l : List Window) (a : Nat) :
    l.foldl (fun acc w => min acc w.value.toNat) a ≤ a ∧ ∀ w ∈ l, l.foldl (fun acc w => min acc w.value.toNat) a ≤ w.value.toNat := by
  induction l generalizing a with
  | nil => exact ⟨Nat.le_refl _, nofun⟩
  | cons x l ih =>
    obtain ⟨h1, h2⟩ := ih (min a x.value.toNat)
    simp only [List.foldl_cons, List.mem_cons]
    refine ⟨by omega, ?_⟩
    rintro w (rfl | hw)
    · omega
    · exact h2 w hw

/-- R22 step 3: a capped magnitude exceeds neither the magnitude nor a covering cap of its kind. -/
theorem capMagnitude_le (ws : List Window) (k : WindowKind) (i n : Nat) :
    capMagnitude ws k i n ≤ n ∧
    ∀ w ∈ ws, w.kind = k → w.covers i = true → capMagnitude ws k i n ≤ w.value.toNat := by
  refine ⟨(foldl_min_le _ _).1, fun w hw hk hc => (foldl_min_le _ _).2 w ?_⟩
  simp [hw, hk, hc]

/-! ### Powers within rating sums (R18, R129), the ratings of dispatch (R112), absent energies (R43, R192) -/

/-- R18, R129: a power within the rating sum of its direction, and within 32767 either way (log entry 14). -/
theorem powerWithin_iff (sum : Dir → Nat) (z : Int) :
    powerWithin sum z = true ↔ -32767 ≤ z ∧ z ≤ 32767 ∧ z ≤ sum .discharge ∧ -z ≤ sum .charge := by
  simp only [powerWithin, powerInRange, powerDir]
  split <;> rename_i h <;> split_ifs at h <;> simp at h <;> simp <;> subst_vars <;> omega

/-- R112: with nothing held back, dispatch uses the ratings in force. -/
theorem dispatchRating_of_none {p : Ck4} (h : p.dispatch.held = none) : p.dispatchRating = p.rating := by
  funext m; simp only [Ck4.dispatchRating, Ck4.dispatchConstant, h]; rfl

theorem dispatchRatingSum_of_none {p : Ck4} (h : p.dispatch.held = none) : p.dispatchRatingSum = p.ratingSum := by
  funext d; rw [Ck4.dispatchRatingSum, dispatchRating_of_none h, Ck4.ratingSum]

/-- R43, R192: the two energies of an inventory that gives none. -/
theorem energies_of_absent {p : Ck4} (h : p.energyAbsent = true) : p.energyDischarge = 0 ∧ p.energyCharge = 0 := by
  simp [Ck4.energyDischarge, Ck4.energyCharge, h]

end Sys2Proof.Machine
end

