-- ==== Sys2Proof/Laws/Plays.lean ====
section
/-! SUPPORT. What the sequencer's operations may change: `Plays p q` adds to what the allocator's operations move the machine
records, the dwell timer and the asking for a save, and says that machines of the two directions have not come into service
together (R87). -/

namespace Sys2Proof.Machine

/-! ### What stays -/

/-- The part without what the sequencer's and the allocator's operations move. -/
def Ck4.playFrame (p : Ck4) : Ck4 :=
  { p.allotFrame with
    sequencer := { p.sequencer with machines := .all (.powerOn .zero), saveAsked := false }
    dispatch := { p.dispatch with dwell := none } }

/-- From `p` to `q` only what the sequencer's and the allocator's operations move has moved, the notice queue has kept its form,
and the directions still exclude each other. -/
structure Ck4.Plays (p q : Ck4) : Prop where
  frame : q.playFrame = p.playFrame
  notices : noticesForm p.station.notices = true → noticesForm q.station.notices = true
  attention : p.attentionOk = true → q.attentionOk = true
  directions : p.directionsOk = true → q.directionsOk = true

theorem Ck4.Plays.refl (p : Ck4) : p.Plays p := ⟨rfl, id, id, id⟩

theorem Ck4.Plays.trans {p q r : Ck4} (h : p.Plays q) (k : q.Plays r) : p.Plays r :=
  ⟨k.frame.trans h.frame, k.notices ∘ h.notices, k.attention ∘ h.attention, k.directions ∘ h.directions⟩

theorem Ck4.Plays.ite {p q r : Ck4} {c : Prop} [Decidable c] (h : p.Plays q) (k : p.Plays r) :
    p.Plays (if c then q else r) := by
  split <;> assumption

theorem Ck4.Plays.foldl {α : Type} (f : Ck4 → α → Ck4) (h : ∀ (p : Ck4) (x : α), p.Plays (f p x)) (l : List α) (p : Ck4) :
    p.Plays (l.foldl f p) := by
  induction l generalizing p with
  | nil => exact .refl p
  | cons x l ih => exact (h p x).trans (ih _)

/-- What the allocator's operations do is among what the sequencer's may do. -/
theorem Ck4.Allots.plays {p q : Ck4} (h : p.Allots q) : p.Plays q where
  frame := congrArg (fun x : Ck4 => { x with
    sequencer := { x.sequencer with machines := .all (.powerOn .zero), saveAsked := false }
    dispatch := { x.dispatch with dwell := none } }) h.frame
  notices := h.notices
  attention := h.attention
  directions := by simp only [Ck4.directionsOk, h.dirInService]; exact id

/-- The directions exclude each other where no machine has come into service. -/
theorem directionsOk_of_service {p q : Ck4} (h : ∀ m, inService (q.mach m).state = true → inService (p.mach m).state = true)
    (hp : p.directionsOk = true) : q.directionsOk = true := by
  have key : ∀ d, q.dirInService d = true → p.dirInService d = true := by
    intro d
    simp only [Ck4.dirInService, List.any_eq_true]
    exact fun ⟨m, hm, hs⟩ => ⟨m, hm, h m hs⟩
  simp only [Ck4.directionsOk, Bool.not_eq_true', Bool.and_eq_false_iff] at hp ⊢
  rcases hp with hp | hp
  · exact .inl (Bool.eq_false_iff.2 fun e => by rw [key _ e] at hp; cases hp)
  · exact .inr (Bool.eq_false_iff.2 fun e => by rw [key _ e] at hp; cases hp)

/-- A frame that leaves the notices alone and brings no machine into service. -/
theorem Ck4.Plays.of_frame {p q : Ck4} (h : q.playFrame = p.playFrame) (hs : q.station = p.station)
    (hm : ∀ m, inService (q.mach m).state = true → inService (p.mach m).state = true) : p.Plays q :=
  ⟨h, by rw [hs]; exact id, by unfold Ck4.attentionOk; rw [hs]; exact id, directionsOk_of_service hm⟩

section fields
variable {p q : Ck4} (h : p.Plays q)
include h
theorem Ck4.Plays.schedule : q.schedule = p.schedule := (congrArg Ck4.schedule h.frame :)
theorem Ck4.Plays.inventory : q.inventory = p.inventory := (congrArg Ck4.inventory h.frame :)
theorem Ck4.Plays.protection : q.protection = p.protection := (congrArg Ck4.protection h.frame :)
theorem Ck4.Plays.time : q.time = p.time := (congrArg Ck4.time h.frame :)
theorem Ck4.Plays.lines : q.lines = p.lines := (congrArg Ck4.lines h.frame :)
theorem Ck4.Plays.constants : q.constants = p.constants := (congrArg Ck4.constants h.frame :)
theorem Ck4.Plays.sources : q.plantLink.sources = p.plantLink.sources := (congrArg (fun x => x.plantLink.sources) h.frame :)
theorem Ck4.Plays.hold : q.allocator.hold = p.allocator.hold := (congrArg (fun x => x.allocator.hold) h.frame :)
theorem Ck4.Plays.freeze : q.allocator.freeze = p.allocator.freeze := (congrArg (fun x => x.allocator.freeze) h.frame :)
theorem Ck4.Plays.log : q.dispatch.log = p.dispatch.log := (congrArg (fun x => x.dispatch.log) h.frame :)
/-- Of dispatch, only the dwell timer has moved. -/
theorem Ck4.Plays.dispatch : { q.dispatch with dwell := p.dispatch.dwell } = p.dispatch :=
  (congrArg (fun x => { x.dispatch with dwell := p.dispatch.dwell }) h.frame :)
theorem Ck4.Plays.held (v : VesselId) : (q.vessel v).held = (p.vessel v).held := by
  have e := congrArg (fun x => (x.allocator.vessels.get v).held) h.frame
  cases v <;> exact e
theorem Ck4.Plays.mode : q.mode = p.mode := by simp only [Ck4.mode, h.constants]
end fields

/-! ### Machine records -/

/-- A machine record replaced by one that is not newly in service, or whose opposite direction is not in service. -/
theorem setMach_directions (p : Ck4) (m : MachineId) (r : MachineRecord)
    (h : inService r.state = true → inService (p.mach m).state = true ∨ p.dirInService (otherDir (machineDir m)) = false)
    (hp : p.directionsOk = true) : (p.setMach m r).directionsOk = true := by
  revert h hp
  cases m <;>
    simp only [Ck4.directionsOk, Ck4.dirInService, machinesOf, machineDir, otherDir, trains, strings, List.any_cons,
      List.any_nil, setMach_mach_self, setMach_mach_ne, ne_eq, reduceCtorEq, not_false_eq_true] <;>
    generalize inService r.state = a <;>
    generalize inService (p.mach .c1).state = b1 <;> generalize inService (p.mach .c2).state = b2 <;>
    generalize inService (p.mach .c3).state = b3 <;> generalize inService (p.mach .e1).state = b4 <;>
    generalize inService (p.mach .e2).state = b5 <;> revert a b1 b2 b3 b4 b5 <;> decide

theorem setMach_frame (p : Ck4) (m : MachineId) (r : MachineRecord) : (p.setMach m r).playFrame = p.playFrame := rfl

/-- A machine record replaced by one in the same state. -/
theorem setMach_plays (p : Ck4) (m : MachineId) (r : MachineRecord) (h : r.state = (p.mach m).state) : p.Plays (p.setMach m r) :=
  ⟨rfl, id, id, setMach_directions p m r (by rw [h]; exact .inl)⟩

/-- R83: an order placed for a machine. -/
theorem placeMachine_plays (p : Ck4) (m : MachineId) (k : OrderKind) (sp : Nat) : p.Plays (p.placeMachine m k sp) :=
  (setMach_plays p m _ (by rfl)).trans (place_allots _ _ _).plays

theorem placeMachine_state (p : Ck4) (m k : MachineId) (o : OrderKind) (sp : Nat) :
    ((p.placeMachine m o sp).mach k).state = (p.mach k).state := by
  simp only [Ck4.placeMachine, place_mach, setMach_mach]; split
  · next h => rw [h]
  · rfl

/-! ### Transitions (R106) -/

theorem followDwell_plays (p : Ck4) (m : MachineId) (o n : MachineState) : p.Plays (p.followDwell m o n) := by
  unfold Ck4.followDwell
  simp only
  split
  · exact .of_frame rfl rfl fun _ h => h
  · split
    · split
      · split
        · exact .of_frame rfl rfl fun _ h => h
        · exact .refl p
      · exact .refl p
    · exact .refl p

theorem followDwell_mach (p : Ck4) (m k : MachineId) (o n : MachineState) : (p.followDwell m o n).mach k = p.mach k := by
  unfold Ck4.followDwell
  simp only
  split
  · rfl
  · split
    · split
      · split <;> rfl
      · rfl
    · rfl

theorem askSave_plays (p : Ck4) : p.Plays p.askSave := .of_frame rfl rfl fun _ h => h

/-- R106: the machine records after a transition. -/
theorem transition_mach (p : Ck4) (m k : MachineId) (n : MachineState) (c : Cause) :
    (p.transition m n c).mach k = if k = m then (p.mach m).move n c p.stamp else p.mach k := by
  have h (q r : Ck4) (hq : r.mach k = q.mach k) : (Ck4.takeEligible p (if (n == .stopped) = true then r.askSave else r)).mach k =
      q.mach k := by
    rw [(takeEligible_allots _ _).mach]
    split
    · exact hq
    · exact hq
  rw [← setMach_mach]
  exact h _ _ (by rw [post_mach, followDwell_mach, (endBindings_allots _ _ _ _).mach])

theorem transition_state (p : Ck4) (m k : MachineId) (n : MachineState) (c : Cause) :
    ((p.transition m n c).mach k).state = if k = m then n else (p.mach k).state := by
  rw [transition_mach]; split <;> rfl

/-- R106: a transition to a state that brings no machine into service, or brings one in while the other direction has none. -/
theorem transition_plays (p : Ck4) (m : MachineId) (n : MachineState) (c : Cause)
    (h : inService n = true → inService (p.mach m).state = true ∨ p.dirInService (otherDir (machineDir m)) = false) :
    p.Plays (p.transition m n c) := by
  have h1 : p.Plays (p.setMach m ((p.mach m).move n c p.stamp)) := ⟨rfl, id, id, setMach_directions p m _ h⟩
  exact (((h1.trans (endBindings_allots _ _ _ _).plays).trans (followDwell_plays _ _ _ _)).trans
    (post_allots _ _ _ _).plays).trans ((Ck4.Plays.ite (askSave_plays _) (.refl _)).trans (takeEligible_allots _ _).plays)

/-- A transition out of service. -/
theorem transition_plays_out (p : Ck4) (m : MachineId) (n : MachineState) (c : Cause) (h : inService n = false) :
    p.Plays (p.transition m n c) := transition_plays p m n c (by rw [h]; nofun)

/-- A transition of a machine in service. -/
theorem transition_plays_in (p : Ck4) (m : MachineId) (n : MachineState) (c : Cause) (h : inService (p.mach m).state = true) :
    p.Plays (p.transition m n c) := transition_plays p m n c fun _ => .inl h

theorem transitionOrder_plays_out (p : Ck4) (m : MachineId) (n : MachineState) (c : Cause) (k : OrderKind)
    (h : inService n = false) : p.Plays (p.transitionOrder m n c k) :=
  (transition_plays_out p m n c h).trans (placeMachine_plays _ _ _ _)

theorem transitionOrder_plays_in (p : Ck4) (m : MachineId) (n : MachineState) (c : Cause) (k : OrderKind)
    (h : inService (p.mach m).state = true) : p.Plays (p.transitionOrder m n c k) :=
  (transition_plays_in p m n c h).trans (placeMachine_plays _ _ _ _)

theorem transitionOrder_state (p : Ck4) (m k : MachineId) (n : MachineState) (c : Cause) (o : OrderKind) :
    ((p.transitionOrder m n c o).mach k).state = if k = m then n else (p.mach k).state := by
  rw [Ck4.transitionOrder, placeMachine_state, transition_state]

/-! ### Loading and unloading (R87 to R93) -/

/-- R88. -/
theorem headroomCheck_plays (p : Ck4) (m : MachineId) : p.Plays (p.headroomCheck m) :=
  .ite ((setMach_plays p m _ (by rfl)).trans (placeMachine_plays _ _ _ _)) (setMach_plays p m _ (by rfl))

/-- R87: a load attempt brings a machine into service only while the other direction has none in service. -/
theorem loadAttempt_plays (p : Ck4) (m : MachineId) : p.Plays (p.loadAttempt m) := by
  unfold Ck4.loadAttempt
  split
  · next h =>
    have hd : p.dirInService (otherDir (machineDir m)) = false := by
      simp only [Bool.and_eq_true, Ck4.mayLoad, Bool.not_eq_true'] at h
      exact h.2.1.1.2
    have hq := requestVessel_allots p m
    split <;> rename_i e <;> rw [e] at hq
    · exact hq.plays.trans (transition_plays _ _ _ _ fun _ => .inr (by rw [hq.dirInService]; exact hd))
    · exact (hq.plays.trans (transition_plays _ _ _ _ fun _ => .inr (by rw [hq.dirInService]; exact hd))).trans
        (headroomCheck_plays _ _)
    · exact hq.plays
  · exact .refl p

/-- R93. -/
theorem linger_plays (p : Ck4) (m : MachineId) : p.Plays (p.linger m) :=
  .ite (.ite (transitionOrder_plays_out p m _ _ _ (by rfl)) (setMach_plays p m _ (by rfl))) (transitionOrder_plays_out p m _ _ _ (by rfl))

theorem enterIdle_plays (p : Ck4) (m : MachineId) : p.Plays (p.enterIdle m) := .ite (loadAttempt_plays p m) (linger_plays p m)

theorem toIdle_plays (p : Ck4) (m : MachineId) (c : Cause) : p.Plays (p.toIdle m c) :=
  (transition_plays_out p m _ c (by rfl)).trans (enterIdle_plays _ _)

/-- R88. -/
theorem routeReady_plays (p : Ck4) (m : MachineId) : p.Plays (p.routeReady m) :=
  .ite (toIdle_plays _ _ _) (headroomCheck_plays _ _)

/-- R89. -/
theorem leaveLoading_plays (p : Ck4) (m : MachineId) (c : Cause) : p.Plays (p.leaveLoading m c) := by
  unfold Ck4.leaveLoading
  split
  · next h =>
    have hs : inService (p.mach m).state = true := by rw [beq_iff_eq.1 h]; rfl
    exact .ite (transitionOrder_plays_in p m _ _ _ hs) (toIdle_plays _ _ _)
  · exact .refl p

/-- R91. -/
theorem unloadRequest_plays (p : Ck4) (m : MachineId) (c : Cause) : p.Plays (p.unloadRequest m c) := by
  unfold Ck4.unloadRequest
  split
  · next h => exact transitionOrder_plays_in p m _ _ _ (by rw [h]; rfl)
  · exact leaveLoading_plays _ _ _
  · exact .refl p

theorem eachIn_plays (p : Ck4) (ms : List MachineId) (s : MachineState) (f : Ck4 → MachineId → Ck4)
    (h : ∀ (q : Ck4) (m : MachineId), (q.mach m).state = s → q.Plays (f q m)) : p.Plays (p.eachIn ms s f) := by
  refine Ck4.Plays.foldl _ (fun q m => ?_) ms p
  split
  · next e => exact h q m (beq_iff_eq.1 e)
  · exact .refl q

/-- R92. -/
theorem marginUnload_plays (p : Ck4) (d : Dir) : p.Plays (p.marginUnload d) :=
  (eachIn_plays p _ _ _ fun q m _ => unloadRequest_plays q m _).trans (eachIn_plays _ _ _ _ fun q m _ => leaveLoading_plays q m _)

/-- R32, R92. -/
theorem handMargins_plays (b p : Ck4) : p.Plays (Ck4.handMargins b p) :=
  (Ck4.Plays.ite (marginUnload_plays p _) (.refl p)).trans (.ite (marginUnload_plays _ _) (.refl _))

/-! ### Plant modes (R95) -/

theorem clearDemands_plays (p : Ck4) : p.Plays p.clearDemands := Ck4.Plays.foldl _ (fun q m => setMach_plays q m _ (by rfl)) _ p

/-- R95. -/
theorem standDown_plays (p : Ck4) : p.Plays p.standDown :=
  ((((clearDemands_plays p).trans (Ck4.Plays.foldl _ (fun q m => setMach_plays q m _ (by rfl)) _ _)).trans
    (eachIn_plays _ _ _ _ fun q m _ => unloadRequest_plays q m _)).trans
    (eachIn_plays _ _ _ _ fun q m _ => leaveLoading_plays q m _)).trans
    (eachIn_plays _ _ _ _ fun q m _ => transitionOrder_plays_out q m _ _ _ (by rfl))

/-! ### Trips, starts, sheds (R85, R94, R97) -/

/-- R97. -/
theorem tripCommand_plays (p : Ck4) (rv : Bool) (m : MachineId) : p.Plays (p.tripCommand rv m) := by
  unfold Ck4.tripCommand
  split
  · exact .refl p
  · exact (setMach_plays p m _ (by rfl)).trans (.ite (transition_plays_out _ m _ _ (by rfl)) (.refl _))
  · exact (transitionOrder_plays_out p m _ _ _ (by rfl)).trans (setMach_plays _ m _ (by rfl))

/-- R97: whatever its state, a machine that is commanded to trip is then TRIPPED or LOCKED_OUT. -/
theorem tripCommand_state (p : Ck4) (rv : Bool) (m : MachineId) :
    ((p.tripCommand rv m).mach m).state = .tripped ∨ ((p.tripCommand rv m).mach m).state = .lockedOut := by
  unfold Ck4.tripCommand
  split
  · next h => exact .inr h
  · next h =>
    simp only
    split
    · exact .inr (by rw [transition_state, if_pos rfl])
    · exact .inl (by rw [setMach_mach_self]; exact h)
  · exact .inl (by rw [setMach_mach_self]; simp only [MachineRecord.trip, transitionOrder_state, if_true])

/-- R97: a trip command leaves every other machine as it is. -/
theorem tripCommand_other (p : Ck4) (rv : Bool) (m k : MachineId) (h : k ≠ m) : (p.tripCommand rv m).mach k = p.mach k := by
  have ho (q : Ck4) (n c o) : (q.transitionOrder m n c o).mach k = q.mach k := by
    simp [Ck4.transitionOrder, Ck4.placeMachine, transition_mach, h]
  unfold Ck4.tripCommand
  split
  · rfl
  · simp only
    split
    · simp [transition_mach, h]
    · simp [h]
  · simp [ho, h]

/-- R85. -/
theorem start_plays (p : Ck4) (m : MachineId) : p.Plays (p.start m) :=
  ((transition_plays_out p m _ _ (by rfl)).trans (setMach_plays _ m _ (by rfl))).trans (placeMachine_plays _ _ _ _)

/-- R84. -/
theorem oneMore_plays (p : Ck4) (d : Dir) : p.Plays (p.oneMore d).2 := by
  unfold Ck4.oneMore
  simp only
  split
  · exact setMach_plays p _ _ (by rfl)
  · split
    · exact start_plays p _
    · exact .refl p

/-- R94. -/
theorem shed_plays (p : Ck4) (m : MachineId) : p.Plays (p.shed m) := (setMach_plays p m _ (by rfl)).trans (unloadRequest_plays _ _ _)

/-- R90. -/
theorem handSetpoint_plays (p : Ck4) (m : MachineId) (n : Nat) : p.Plays (p.handSetpoint m n) :=
  .ite (placeMachine_plays _ _ _ _) (.refl p)

/-! ### Switchover (R71 to R75) -/

theorem noTarget_plays (p : Ck4) (m : MachineId) : p.Plays (p.noTarget m) :=
  .ite ((enterBypass_allots p m).plays.trans (takeEligible_allots _ _).plays)
    ((restoreBound_allots p m).plays.trans (unloadRequest_plays _ _ _))

/-- R72. -/
theorem switchover_plays (p : Ck4) (m : MachineId) (c : SwitchCause) : p.Plays (p.switchover m c) := by
  unfold Ck4.switchover
  split
  · split
    · exact (allocate_allots _ _ _ _).plays
    · exact noTarget_plays p m
  · exact .refl p

theorem boundTrigger_plays (p : Ck4) (m : MachineId) : p.Plays (p.boundTrigger m) := by
  unfold Ck4.boundTrigger
  split
  · exact .refl p
  · split
    · exact .refl p
    · exact switchover_plays _ _ _

/-- R74. -/
theorem seekAgain_plays (p : Ck4) (m : MachineId) : p.Plays (p.seekAgain m) := by
  unfold Ck4.seekAgain
  simp only
  split
  · exact (allocate_allots _ _ _ _).plays
  · split
    · split
      · exact (enterBypass_allots p m).plays.trans (headroomCheck_plays _ _)
      · exact leaveLoading_plays _ _ _
    · exact (restoreBound_allots p m).plays
    · exact .refl p
    · exact noTarget_plays p m

theorem classTurn_plays (p : Ck4) (v : VesselId) : p.Plays (p.classTurn v) := by
  unfold Ck4.classTurn
  split
  · exact switchover_plays _ _ _
  · exact switchover_plays _ _ _
  · exact .refl p

/-- R71. -/
theorem establish_plays (p : Ck4) (m : MachineId) (v : VesselId) : p.Plays (p.establish m v) := by
  have h : p.Plays (Ck4.takeEligible p ((((p.setUse v (boundUse m)).freeVessel? (p.binding m).bound).setBinding m
      { p.binding m with bound := some v, target := none, timer := none, bypass := false }).postSwitched m
      (p.binding m).oldCode (vesselIndex v))) :=
    (((((setUse_allots _ _ _).trans (freeVessel?_allots _ _)).trans (setBinding_allots _ _ _)).trans
      (postSwitched_allots _ _ _ _)).trans (takeEligible_allots _ _)).plays
  unfold Ck4.establish
  simp only
  split
  · exact h.trans (routeReady_plays _ _)
  · exact h.trans (boundTrigger_plays _ _)
  · exact h

theorem routeReported_plays (p : Ck4) (v : VesselId) (e : Bool) : p.Plays (p.routeReported v e) := by
  unfold Ck4.routeReported
  split
  · exact .ite (establish_plays _ _ _) (.refl p)
  · exact .refl p

/-! ### The way back (R99, R100) -/

theorem ackToStopped_plays (p : Ck4) (m : MachineId) : p.Plays (p.ackToStopped m) := transitionOrder_plays_out p m _ _ _ (by rfl)

/-- R99. -/
theorem acknowledge_plays (p : Ck4) (m : MachineId) : p.Plays (p.acknowledge m) := by
  unfold Ck4.acknowledge
  simp only
  split
  · exact .ite ((setMach_plays p m _ (by rfl)).trans (ackToStopped_plays _ _)) (setMach_plays p m _ (by rfl))
  · exact .refl p

/-- R99. -/
theorem trippedStopped_plays (p : Ck4) (m : MachineId) : p.Plays (p.trippedStopped m) :=
  (setMach_plays p m _ (by rfl)).trans (.ite (transition_plays_out _ m _ _ (by rfl)) (.ite (ackToStopped_plays _ _) (.refl _)))

/-- R100. -/
theorem release_plays (p : Ck4) (m : MachineId) : p.Plays (p.release m) :=
  (transitionOrder_plays_out p m _ _ _ (by rfl)).trans (setMach_plays _ m _ (by rfl))

/-! ### Dispatch's requests (R124 to R128) -/

theorem commit_plays (p : Ck4) (d : Dir) (n : Nat) : p.Plays (p.commit d n) := by
  induction n generalizing p with
  | zero => exact .refl p
  | succ n ih =>
    unfold Ck4.commit
    split
    · have h := oneMore_plays p d
      split <;> rename_i e <;> rw [e] at h
      · exact h.trans (ih _)
      · exact h
    · exact .refl p

theorem shedAll_plays (p : Ck4) (d : Dir) (n : Nat) : p.Plays (p.shedAll d n) := by
  induction n generalizing p with
  | zero => exact .refl p
  | succ n ih =>
    unfold Ck4.shedAll
    split
    · exact .refl p
    · exact (shed_plays p _).trans (ih _)

theorem shedExcess_plays (p : Ck4) (d : Dir) : p.Plays (p.shedExcess d) := by
  unfold Ck4.shedExcess
  split
  · exact .refl p
  · exact .ite (shed_plays p _) (.refl p)

/-- R124, R125. -/
theorem setCommitment_plays (p : Ck4) : p.Plays p.setCommitment := by
  unfold Ck4.setCommitment
  split
  · exact (shedAll_plays p _ _).trans (shedAll_plays _ _ _)
  · exact ((Ck4.Plays.ite (.refl p) (commit_plays p _ _)).trans (.ite (shedAll_plays _ _ _) (shedExcess_plays _ _))).trans
      (shedAll_plays _ _ _)

theorem fit_plays (p : Ck4) (d : Dir) (n : Nat) : p.Plays (p.fit d n) := by
  induction n generalizing p with
  | zero => exact .refl p
  | succ n ih =>
    unfold Ck4.fit
    split
    · split
      · exact .refl p
      · exact (shed_plays p _).trans (ih _)
    · exact .refl p

theorem split_plays (p : Ck4) (d : Dir) : p.Plays (p.split d) :=
  (fit_plays p d 3).trans (Ck4.Plays.foldl _ (fun q m => handSetpoint_plays q m _) _ _)

/-- R128. -/
theorem callLoads_plays (p : Ck4) : p.Plays p.callLoads :=
  (Ck4.Plays.foldl _ loadAttempt_plays _ p).trans
    (Ck4.Plays.foldl _ (fun q m => .ite (headroomCheck_plays q m) (.refl q)) _ _)

/-- Stage 6 of a cycle. -/
theorem setSplit_plays (p : Ck4) : p.Plays p.setSplit := by
  unfold Ck4.setSplit
  split
  · exact callLoads_plays p
  · exact (Ck4.Plays.ite (.refl p) (split_plays p _)).trans (callLoads_plays _)

end Sys2Proof.Machine
end

