-- ==== Sys2Proof/Laws/Faults.lean ====
section
/-! SUPPORT. What taking a fault may change (R142): `Acts p q` adds to what the sequencer's operations move protection's record
and the plant mode, and says that the fault table stays within its bound and that the shutdown field and the mode stand
together. -/

namespace Sys2Proof.Machine

/-- The part without what taking a fault moves. -/
def Ck4.actFrame (p : Ck4) : Ck4 :=
  { p.playFrame with protection := .powerOn, constants := { p.constants with mode := .standby } }

/-- From `p` to `q` only what taking a fault moves has moved, within the bounds that hold of it. -/
structure Ck4.Acts (p q : Ck4) : Prop where
  frame : q.actFrame = p.actFrame
  notices : noticesForm p.station.notices = true → noticesForm q.station.notices = true
  attention : p.attentionOk = true → q.attentionOk = true
  directions : p.directionsOk = true → q.directionsOk = true
  table : p.tableOk = true → q.tableOk = true
  shutdown : p.shutdownOk = true → q.shutdownOk = true

theorem Ck4.Acts.refl (p : Ck4) : p.Acts p := ⟨rfl, id, id, id, id, id⟩

theorem Ck4.Acts.trans {p q r : Ck4} (h : p.Acts q) (k : q.Acts r) : p.Acts r :=
  ⟨k.frame.trans h.frame, k.notices ∘ h.notices, k.attention ∘ h.attention, k.directions ∘ h.directions, k.table ∘ h.table,
    k.shutdown ∘ h.shutdown⟩

theorem Ck4.Acts.ite {p q r : Ck4} {c : Prop} [Decidable c] (h : p.Acts q) (k : p.Acts r) : p.Acts (if c then q else r) := by
  split <;> assumption

theorem Ck4.Acts.foldl {α : Type} (f : Ck4 → α → Ck4) (h : ∀ (p : Ck4) (x : α), p.Acts (f p x)) (l : List α) (p : Ck4) :
    p.Acts (l.foldl f p) := by
  induction l generalizing p with
  | nil => exact .refl p
  | cons x l ih => exact (h p x).trans (ih _)

theorem Ck4.Plays.acts {p q : Ck4} (h : p.Plays q) : p.Acts q where
  frame := congrArg (fun x : Ck4 => { x with protection := .powerOn, constants := { x.constants with mode := .standby } }) h.frame
  notices := h.notices
  attention := h.attention
  directions := h.directions
  table := by simp only [Ck4.tableOk, h.protection]; exact id
  shutdown := by simp only [Ck4.shutdownOk, h.protection, h.mode]; exact id

theorem Ck4.Allots.acts {p q : Ck4} (h : p.Allots q) : p.Acts q := h.plays.acts

section fields
variable {p q : Ck4} (h : p.Acts q)
include h
theorem Ck4.Acts.schedule : q.schedule = p.schedule := (congrArg Ck4.schedule h.frame :)
theorem Ck4.Acts.inventory : q.inventory = p.inventory := (congrArg Ck4.inventory h.frame :)
theorem Ck4.Acts.time : q.time = p.time := (congrArg Ck4.time h.frame :)
theorem Ck4.Acts.lines : q.lines = p.lines := (congrArg Ck4.lines h.frame :)
theorem Ck4.Acts.sections : q.constants.sections = p.constants.sections := (congrArg (fun x => x.constants.sections) h.frame :)
theorem Ck4.Acts.sources : q.plantLink.sources = p.plantLink.sources := (congrArg (fun x => x.plantLink.sources) h.frame :)
theorem Ck4.Acts.hold : q.allocator.hold = p.allocator.hold := (congrArg (fun x => x.allocator.hold) h.frame :)
theorem Ck4.Acts.log : q.dispatch.log = p.dispatch.log := (congrArg (fun x => x.dispatch.log) h.frame :)
theorem Ck4.Acts.held (v : VesselId) : (q.vessel v).held = (p.vessel v).held := by
  have e := congrArg (fun x => (x.allocator.vessels.get v).held) h.frame
  cases v <;> exact e
end fields

/-! ### Numbering (R139) -/

theorem number_table (t : Protection) (s : Option PlantTime) (f : FaultReport) (h : t.table.length ≤ 16) :
    (t.number s f).table.length ≤ 16 := by
  unfold Protection.number
  split
  · next hl => simp only [Config.faultTableSize] at hl; simp only [List.length_append, List.length_singleton]; omega
  · exact h

theorem number_shutdown (t : Protection) (s : Option PlantTime) (f : FaultReport) : (t.number s f).shutdown = t.shutdown := by
  unfold Protection.number; split <;> rfl

theorem number_tripInProgress (t : Protection) (s : Option PlantTime) (f : FaultReport) :
    (t.number s f).tripInProgress = t.tripInProgress := by
  unfold Protection.number; split <;> rfl

theorem number_nextSequence (t : Protection) (s : Option PlantTime) (f : FaultReport) :
    (t.number s f).nextSequence = succ16 t.nextSequence := by
  unfold Protection.number; split <;> rfl

/-- R137, R139: a fault of an enabled group is numbered, and recorded where the table has room. -/
theorem numberFault_acts (p : Ck4) (f : FaultReport) : p.Acts (p.numberFault f) := by
  have h : p.Acts { p with protection := p.protection.number p.stamp f } :=
    ⟨rfl, id, id, id,
      fun ht => decide_eq_true (number_table _ _ _ (of_decide_eq_true ht)),
      by simp only [Ck4.shutdownOk, number_shutdown]; exact id⟩
  exact .ite (h.trans (post_allots _ _ _ _).acts) h

theorem numberFault_mach (p : Ck4) (f : FaultReport) (m : MachineId) : (p.numberFault f).mach m = p.mach m := by
  unfold Ck4.numberFault; simp only; split <;> rfl

theorem numberFault_protection (p : Ck4) (f : FaultReport) : (p.numberFault f).protection = p.protection.number p.stamp f := by
  unfold Ck4.numberFault; simp only; split <;> rfl

theorem numberFault_mode (p : Ck4) (f : FaultReport) : (p.numberFault f).mode = p.mode := by
  unfold Ck4.numberFault; simp only; split <;> rfl

theorem recordFault_acts (p : Ck4) (f : FaultReport) : p.Acts (p.recordFault f) := .ite (numberFault_acts p f) (.refl p)

theorem recordFault_mach (p : Ck4) (f : FaultReport) (m : MachineId) : (p.recordFault f).mach m = p.mach m := by
  unfold Ck4.recordFault; split
  · exact numberFault_mach p f m
  · rfl

/-! ### PLANT faults (R145, R146) -/

theorem beginTrip_acts (p : Ck4) (n : Nat) (f : FaultReport) : p.Acts (p.beginTrip n f) := by
  have h : p.Acts { p with protection := { p.protection with tripInProgress := true, lastTripOrigin := some n } } :=
    ⟨rfl, id, id, id, id, id⟩
  exact h.trans (post_allots _ _ _ _).acts

/-- R146: the shutdown field and the mode are set together. -/
theorem escalate_acts (p : Ck4) (n : Nat) : p.Acts (p.escalate n) := by
  have h : p.Acts (Ck4.setModeField { p with protection := { p.protection with shutdown := true } } .shutdown) :=
    ⟨rfl, id, id, id, id, fun _ => rfl⟩
  exact (h.trans (clearDemands_plays _).acts).trans (post_allots _ _ _ _).acts

theorem plantFault_acts (p : Ck4) (n : Nat) (f : FaultReport) : p.Acts (p.plantFault n f) :=
  .ite (.ite (.refl p) (escalate_acts p n)) (beginTrip_acts p n f)

theorem tripAll_plays (p : Ck4) (ms : List MachineId) (rv : Bool) : p.Plays (p.tripAll ms rv) :=
  Ck4.Plays.foldl _ (fun q m => tripCommand_plays q rv m) ms p

/-- R143, R144. -/
theorem severityAction_plays (p : Ck4) (f : FaultReport) : p.Plays (p.severityAction f) := by
  unfold Ck4.severityAction
  split
  · exact .refl p
  · split
    · exact unloadRequest_plays _ _ _
    · exact .refl p
  · split
    · exact tripCommand_plays _ _ _
    · exact .refl p
  · exact tripAll_plays _ _ _
  · exact tripAll_plays _ _ _

/-- R142. -/
theorem takeFault_acts (p : Ck4) (f : FaultReport) : p.Acts (p.takeFault f) := by
  unfold Ck4.takeFault
  split
  · exact ((numberFault_acts p f).trans (.ite (plantFault_acts _ _ _) (.refl _))).trans (severityAction_plays _ _).acts
  · exact .refl p

/-- R142: a fault that is not PLANT begins no trip, and a WARN fault acts on no machine. -/
theorem takeFault_warn_mach (p : Ck4) (f : FaultReport) (h : f.severity = .warn) (m : MachineId) :
    (p.takeFault f).mach m = p.mach m := by
  unfold Ck4.takeFault
  split
  · simp only [h, reduceCtorEq, if_false, Ck4.severityAction]; exact numberFault_mach p f m
  · rfl

/-! ### Faults of the sequencer, and reports (R98 to R105) -/

theorem controllerTrip_acts (p : Ck4) (m : MachineId) : p.Acts (p.controllerTrip m) :=
  .ite (.refl p) ((setMach_plays p m _ (by rfl)).acts.trans (takeFault_acts _ _))

theorem breakerAtLoaded_acts (p : Ck4) (m : MachineId) : p.Acts (p.breakerAtLoaded m) := .ite (takeFault_acts _ _) (.refl p)

/-- R89: a machine in service passes to LOADED. -/
theorem toLoaded_acts (p : Ck4) (m : MachineId) (h : inService (p.mach m).state = true) : p.Acts (p.toLoaded m) :=
  ((transition_plays_in p m _ _ h).trans (boundTrigger_plays _ _)).acts.trans (breakerAtLoaded_acts _ _)

theorem startTimeout_acts (p : Ck4) (m : MachineId) : p.Acts (p.startTimeout m) :=
  (setMach_plays p m _ (by rfl)).acts.trans (takeFault_acts _ _)

theorem endCorrection_plays (p : Ck4) (m : MachineId) : p.Plays (p.endCorrection m) := setMach_plays p m _ (by rfl)

theorem toStopped_plays (p : Ck4) (m : MachineId) : p.Plays (p.toStopped m) :=
  (transition_plays_out p m _ _ (by rfl)).trans (setMach_plays _ m _ (by rfl))

/-- R86, R89, R93, R99. -/
theorem completeTransition_acts (p : Ck4) (m : MachineId) : p.Acts (p.completeTransition m) := by
  unfold Ck4.completeTransition
  split
  · exact (toIdle_plays _ _ _).acts
  · next h => exact toLoaded_acts p m (by rw [h]; rfl)
  · exact (toIdle_plays _ _ _).acts
  · exact (toStopped_plays _ _).acts
  · exact (trippedStopped_plays _ _).acts
  · exact .refl p

/-- R103. -/
theorem correct_acts (p : Ck4) (m : MachineId) (k : OrderKind) (r : Report) : p.Acts (p.correct m k r) :=
  .ite (.ite (.refl p) (placeMachine_plays _ _ _ _).acts)
    (((placeMachine_plays p m _ _).trans (setMach_plays _ m _ (by rfl))).acts.trans (takeFault_acts _ _))

/-- R102: a report that is followed down into UNLOADING or IDLE is followed from LOADED. -/
theorem judge_followed (r : MachineRecord) (x : Report) (h : judge r x = .followed) (hx : x = .unloading ∨ x = .runUnloaded) :
    r.state = .loaded := by
  cases hs : r.state <;> rcases hx with rfl | rfl <;> first | rfl | simp [judge, hs] at h
  revert h; split <;> nofun

/-- R104. -/
theorem followDown_acts (p : Ck4) (m : MachineId) (x : Report) (h : x = .unloading ∨ x = .runUnloaded → (p.mach m).state = .loaded) :
    p.Acts (p.followDown m x) := by
  have hq : p.Acts (if (p.mach m).correcting then p else p.takeFault (unexpectedFault m (p.mach m).state x)) :=
    .ite (.refl p) (takeFault_acts _ _)
  have hm : (Ck4.mach (if (p.mach m).correcting then p else p.takeFault (unexpectedFault m (p.mach m).state x)) m) = p.mach m := by
    split
    · rfl
    · exact takeFault_warn_mach _ _ rfl _
  have hs (hx : x = .unloading ∨ x = .runUnloaded) : inService (Ck4.mach
      (if (p.mach m).correcting then p else p.takeFault (unexpectedFault m (p.mach m).state x)) m).state = true := by
    rw [hm, h hx]; rfl
  unfold Ck4.followDown
  simp only
  split
  · exact hq.trans (transitionOrder_plays_in _ m _ _ _ (hs (.inl rfl))).acts
  · exact hq.trans ((transitionOrder_plays_in _ m _ _ _ (hs (.inr rfl))).trans (toIdle_plays _ _ _)).acts
  · exact hq.trans ((transitionOrder_plays_out _ m _ _ _ (by rfl)).trans (toStopped_plays _ _)).acts
  · exact hq.trans (transitionOrder_plays_out _ m _ _ _ (by rfl)).acts

/-- R102. -/
theorem judgeReport_acts (p : Ck4) (m : MachineId) (x : Report) : p.Acts (p.judgeReport m x) := by
  unfold Ck4.judgeReport
  split
  · exact (endCorrection_plays _ _).acts
  · exact (endCorrection_plays _ _).acts.trans (completeTransition_acts _ _)
  · next h => exact followDown_acts _ _ _ (judge_followed _ _ h)
  · exact correct_acts _ _ _ _
  · exact controllerTrip_acts _ _

/-- R105: adoption brings a machine into service only while the other direction has none. -/
theorem adopt_acts (p : Ck4) (m : MachineId) (x : Report) : p.Acts (p.adopt m x) := by
  unfold Ck4.adopt
  split
  · exact .refl p
  · exact (transitionOrder_plays_out _ m _ _ _ (by rfl)).acts
  · exact (transitionOrder_plays_out _ m _ _ _ (by rfl)).acts
  · exact (toIdle_plays _ _ _).acts
  · exact controllerTrip_acts _ _
  · split
    · exact (takeFault_acts _ _).trans (transitionOrder_plays_out _ m _ _ _ (by rfl)).acts
    · next h =>
      exact ((transition_plays p m _ _ fun _ => .inr (by simpa using h)).trans (placeMachine_plays _ _ _ _)).acts

/-! ### Vessels (R58, R71 to R74) -/

/-- R74. -/
theorem giveUpTarget_acts (p : Ck4) (m : MachineId) (t : Bool) : p.Acts (p.giveUpTarget m t) := by
  unfold Ck4.giveUpTarget
  split
  · exact .refl p
  · exact ((((freeVessel_allots _ _).trans (degrade_allots _ _)).trans (setBinding_allots _ _ _)).acts.trans
      (.ite (recordFault_acts _ _) (.refl _))).trans (seekAgain_plays _ _).acts

theorem degradedTurn_acts (p : Ck4) (v : VesselId) : p.Acts (p.degradedTurn v) := by
  unfold Ck4.degradedTurn
  split
  · exact giveUpTarget_acts _ _ _
  · exact (switchover_plays _ _ _).acts
  · exact (switchover_plays _ _ _).acts
  · exact .refl p

theorem takeTurns_acts (b p : Ck4) (v : VesselId) : p.Acts (Ck4.takeTurns b p v) :=
  .ite (degradedTurn_acts _ _) (.ite (classTurn_plays _ _).acts (.refl p))

theorem testCondition_acts (p : Ck4) (v : VesselId) : p.Acts (p.testCondition v) :=
  .ite ((setVessel_allots p v _ (by rfl)).acts.trans (recordFault_acts _ _)) (.refl p)

theorem withFigures_held (p : Ck4) (v : VesselId) (r : VesselRecord) : (p.withFigures v r).held = r.held := by
  unfold Ck4.withFigures; split <;> rfl

theorem refreshVessel_allots (p : Ck4) (v : VesselId) : p.Allots (p.refreshVessel v) :=
  setVessel_allots p v _ (withFigures_held _ _ _)

/-- R58, R177. -/
theorem vesselSource_acts (p : Ck4) (v : VesselId) (s : SourceState) : p.Acts (p.vesselSource v s) :=
  .ite (.ite (((setVessel_allots p v _ (by rfl)).trans (degrade_allots _ _)).acts.trans (degradedTurn_acts _ _))
    (setVessel_allots p v _ (by rfl)).acts) (setVessel_allots p v _ (by rfl)).acts

/-- R56. -/
theorem vesselRecord_acts (p : Ck4) (v : VesselId) (rt : Route) (bs : List Bool) (ts : List Int) (e : Bool) :
    p.Acts (p.vesselRecord v rt bs ts e) :=
  ((((((setVessel_allots p v _ (by rfl)).acts.trans (testCondition_acts _ _)).trans (refreshVessel_allots _ _).acts).trans
    (setVessel_allots _ v _ (by rfl)).acts).trans (routeReported_plays _ _ _).acts).trans
    (.ite (.refl _) (takeEligible_allots _ _).acts)).trans (takeTurns_acts _ _ _)

/-- R79. -/
theorem retest_acts (p : Ck4) (v : VesselId) : p.Acts (p.retest v) :=
  ((setVessel_allots p v _ (by rfl)).acts.trans (.ite (setVessel_allots _ v _ (by rfl)).acts
    (.ite (testCondition_acts _ _) (.refl _)))).trans (refreshVessel_allots _ _).acts

/-- R56. -/
theorem vesselsStored_acts (p : Ck4) : p.Acts p.vesselsStored :=
  ((Ck4.Acts.foldl _ (fun q v => ((setVessel_allots q v _ (by rfl)).acts.trans
    (.ite (testCondition_acts _ _) (.refl _))).trans (refreshVessel_allots _ _).acts) _ p).trans
    (takeEligible_allots _ _).acts).trans (Ck4.Acts.foldl _ (fun q v => takeTurns_acts p q v) _ _)

end Sys2Proof.Machine
end

