-- ==== Sys2Proof/Laws/Finish.lean ====
section
/-! SUPPORT. What the end of a step leaves alone, field by field, and that it leaves every output right (R171). -/

namespace Sys2Proof.Machine

section finish
variable (p : Ck4)

@[simp] theorem pumpSave_sequencer_machines : p.pumpSave.sequencer.machines = p.sequencer.machines := by
  unfold Ck4.pumpSave; split <;> rfl

/-- R109: the end of a step may take a save that was asked for, and touches nothing else of the sequencer. -/
theorem pumpSave_eq : p.pumpSave = { p with sequencer := { p.sequencer with
    save := p.pumpSave.sequencer.save, saveAsked := p.pumpSave.sequencer.saveAsked } } := by
  unfold Ck4.pumpSave; split <;> rfl

/-- R188: the station transmitter. -/
theorem pumpReplies_eq : p.pumpReplies = { p with station := { p.station with
    tx := p.pumpReplies.station.tx, sending := p.pumpReplies.station.sending } } := by
  unfold Ck4.pumpReplies; split <;> rfl

/-- R188: what the transmitter starts: nothing while it is busy or a restart waits for no reply; else the waiting BUSY reply, else
the reply of the head request. -/
theorem pumpReplies_starts :
    (p.pumpReplies = p ∧ (p.station.tx ≠ .idle ∨ (p.station.restartAsked = true ∧ p.station.headReply = none) ∨
      (p.station.busyReply = none ∧ p.station.headReply = none))) ∨
    ∃ tx r, p.station.tx = .idle ∧ p.pumpReplies = { p with station := { p.station with tx := tx, sending := some r.bytes } } ∧
      ((tx = .busy ∧ p.station.busyReply = some r) ∨
        (tx = .reply ∧ p.station.busyReply = none ∧ p.station.headReply = some r)) := by
  unfold Ck4.pumpReplies StationLink.nextFrame
  cases p.station.tx <;> cases hb : p.station.busyReply <;> cases hh : p.station.headReply <;>
    cases p.station.restartAsked <;> simp

/-- R180: the arbiter of the plant link. -/
theorem pumpOrders_eq : p.pumpOrders = { p with plantLink := { p.plantLink with
    transmitList := p.pumpOrders.plantLink.transmitList, transmission := p.pumpOrders.plantLink.transmission } } := by
  unfold Ck4.pumpOrders
  split
  · split
    · split <;> rfl
    · rfl
  · rfl

@[simp] theorem finish_schedule : p.finish.schedule = p.schedule := by
  simp only [Ck4.finish, Ck4.refreshOutputs]; rw [pumpOrders_eq, pumpReplies_eq, pumpSave_eq]
@[simp] theorem finish_inventory : p.finish.inventory = p.inventory := by
  simp only [Ck4.finish, Ck4.refreshOutputs]; rw [pumpOrders_eq, pumpReplies_eq, pumpSave_eq]
@[simp] theorem finish_allocator : p.finish.allocator = p.allocator := by
  simp only [Ck4.finish, Ck4.refreshOutputs]; rw [pumpOrders_eq, pumpReplies_eq, pumpSave_eq]
@[simp] theorem finish_dispatch : p.finish.dispatch = p.dispatch := by
  simp only [Ck4.finish, Ck4.refreshOutputs]; rw [pumpOrders_eq, pumpReplies_eq, pumpSave_eq]
@[simp] theorem finish_protection : p.finish.protection = p.protection := by
  simp only [Ck4.finish, Ck4.refreshOutputs]; rw [pumpOrders_eq, pumpReplies_eq, pumpSave_eq]
@[simp] theorem finish_time : p.finish.time = p.time := by
  simp only [Ck4.finish, Ck4.refreshOutputs]; rw [pumpOrders_eq, pumpReplies_eq, pumpSave_eq]
@[simp] theorem finish_constants : p.finish.constants = p.constants := by
  simp only [Ck4.finish, Ck4.refreshOutputs]; rw [pumpOrders_eq, pumpReplies_eq, pumpSave_eq]
@[simp] theorem finish_inputs : p.finish.lines.inputs = p.lines.inputs := by
  simp only [Ck4.finish, Ck4.refreshOutputs]; rw [pumpOrders_eq, pumpReplies_eq, pumpSave_eq]
@[simp] theorem finish_machines : p.finish.sequencer.machines = p.sequencer.machines := by
  simp only [Ck4.finish, Ck4.refreshOutputs]; rw [pumpOrders_eq, pumpReplies_eq, pumpSave_eq]
@[simp] theorem finish_restored : p.finish.sequencer.restored = p.sequencer.restored := by
  simp only [Ck4.finish, Ck4.refreshOutputs]; rw [pumpOrders_eq, pumpReplies_eq, pumpSave_eq]
@[simp] theorem finish_sources : p.finish.plantLink.sources = p.plantLink.sources := by
  simp only [Ck4.finish, Ck4.refreshOutputs]; rw [pumpOrders_eq, pumpReplies_eq, pumpSave_eq]
@[simp] theorem finish_queue : p.finish.plantLink.queue = p.plantLink.queue := by
  simp only [Ck4.finish, Ck4.refreshOutputs]; rw [pumpOrders_eq, pumpReplies_eq, pumpSave_eq]
@[simp] theorem finish_plantPhase : p.finish.plantLink.phase = p.plantLink.phase := by
  simp only [Ck4.finish, Ck4.refreshOutputs]; rw [pumpOrders_eq, pumpReplies_eq, pumpSave_eq]
@[simp] theorem finish_plantInProgress : p.finish.plantLink.inProgress = p.plantLink.inProgress := by
  simp only [Ck4.finish, Ck4.refreshOutputs]; rw [pumpOrders_eq, pumpReplies_eq, pumpSave_eq]
@[simp] theorem finish_machineSlots : p.finish.plantLink.machineSlots = p.plantLink.machineSlots := by
  simp only [Ck4.finish, Ck4.refreshOutputs]; rw [pumpOrders_eq, pumpReplies_eq, pumpSave_eq]
@[simp] theorem finish_vesselSlots : p.finish.plantLink.vesselSlots = p.plantLink.vesselSlots := by
  simp only [Ck4.finish, Ck4.refreshOutputs]; rw [pumpOrders_eq, pumpReplies_eq, pumpSave_eq]
@[simp] theorem finish_notices : p.finish.station.notices = p.station.notices := by
  simp only [Ck4.finish, Ck4.refreshOutputs]; rw [pumpOrders_eq, pumpReplies_eq, pumpSave_eq]
@[simp] theorem finish_attention : p.finish.station.attentionPending = p.station.attentionPending := by
  simp only [Ck4.finish, Ck4.refreshOutputs]; rw [pumpOrders_eq, pumpReplies_eq, pumpSave_eq]
@[simp] theorem finish_masked : p.finish.station.masked = p.station.masked := by
  simp only [Ck4.finish, Ck4.refreshOutputs]; rw [pumpOrders_eq, pumpReplies_eq, pumpSave_eq]
@[simp] theorem finish_stationQueue : p.finish.station.queue = p.station.queue := by
  simp only [Ck4.finish, Ck4.refreshOutputs]; rw [pumpOrders_eq, pumpReplies_eq, pumpSave_eq]
@[simp] theorem finish_headReply : p.finish.station.headReply = p.station.headReply := by
  simp only [Ck4.finish, Ck4.refreshOutputs]; rw [pumpOrders_eq, pumpReplies_eq, pumpSave_eq]
@[simp] theorem finish_busyReply : p.finish.station.busyReply = p.station.busyReply := by
  simp only [Ck4.finish, Ck4.refreshOutputs]; rw [pumpOrders_eq, pumpReplies_eq, pumpSave_eq]
@[simp] theorem finish_answer : p.finish.station.answer = p.station.answer := by
  simp only [Ck4.finish, Ck4.refreshOutputs]; rw [pumpOrders_eq, pumpReplies_eq, pumpSave_eq]
@[simp] theorem finish_phase : p.finish.station.phase = p.station.phase := by
  simp only [Ck4.finish, Ck4.refreshOutputs]; rw [pumpOrders_eq, pumpReplies_eq, pumpSave_eq]
@[simp] theorem finish_restartAsked : p.finish.station.restartAsked = p.station.restartAsked := by
  simp only [Ck4.finish, Ck4.refreshOutputs]; rw [pumpOrders_eq, pumpReplies_eq, pumpSave_eq]
@[simp] theorem finish_mach (m : MachineId) : p.finish.mach m = p.mach m := by simp [Ck4.mach]
@[simp] theorem finish_vessel (v : VesselId) : p.finish.vessel v = p.vessel v := by simp [Ck4.vessel]
@[simp] theorem finish_binding (m : MachineId) : p.finish.binding m = p.binding m := by simp [Ck4.binding]
@[simp] theorem finish_mode : p.finish.mode = p.mode := by simp [Ck4.mode]
@[simp] theorem finish_input (i : Nat) : p.finish.input i = p.input i := by simp [Ck4.input]
@[simp] theorem finish_source (i : Nat) : p.finish.source i = p.source i := by simp [Ck4.source]
@[simp] theorem finish_slot (d : Dest) : p.finish.slot d = p.slot d := by cases d <;> simp [Ck4.slot]
@[simp] theorem finish_good (id : SectionId) : p.finish.good id = p.good id := by simp [Ck4.good]
@[simp] theorem finish_allGood : p.finish.allGood = p.allGood := by simp [Ck4.allGood, allSections]
@[simp] theorem finish_countIn (x : MachineState) : p.finish.countIn x = p.countIn x := by simp [Ck4.countIn]
@[simp] theorem finish_dirInService (d : Dir) : p.finish.dirInService d = p.dirInService d := by simp [Ck4.dirInService]

/-- R171: no condition of an output reads an output. -/
theorem refreshOutputs_condition (f : OutputFunction) : p.refreshOutputs.outputCondition f = p.outputCondition f := by
  cases f <;> rfl

/-- R171: a recomputation leaves every output right. -/
theorem refreshOutputs_ok : p.refreshOutputs.outputsOk = true := by
  simp only [Ck4.outputsOk, refreshOutputs_condition]
  simp [Ck4.refreshOutputs]

end finish

end Sys2Proof.Machine
end

