-- ==== Sys2Proof/Laws/Keeps.lean ====
section
/-! SUPPORT. The bounds that every operation keeps: `Keeps p q` says that what Sys2Proof/Safety.lean asks of `p` it may ask of
`q`. One lemma for each shared operation that the commands and the idle clock are made of. -/

namespace Sys2Proof.Machine

/-- What is safe of `p` is safe of `q`: the notice queue, attention, the fault table, the settlement log, SHUTDOWN, the two
directions, the held vessels. -/
structure Ck4.Keeps (p q : Ck4) : Prop where
  notices : noticesForm p.station.notices = true → noticesForm q.station.notices = true
  attention : p.attentionOk = true → q.attentionOk = true
  table : p.tableOk = true → q.tableOk = true
  log : p.logOk = true → q.logOk = true
  shutdown : p.shutdownOk = true → q.shutdownOk = true
  directions : p.directionsOk = true → q.directionsOk = true
  held : p.heldOk = true → q.heldOk = true

theorem Ck4.Keeps.refl (p : Ck4) : p.Keeps p := ⟨id, id, id, id, id, id, id⟩

theorem Ck4.Keeps.trans {p q r : Ck4} (h : p.Keeps q) (k : q.Keeps r) : p.Keeps r :=
  ⟨k.notices ∘ h.notices, k.attention ∘ h.attention, k.table ∘ h.table, k.log ∘ h.log, k.shutdown ∘ h.shutdown,
    k.directions ∘ h.directions, k.held ∘ h.held⟩

theorem Ck4.Keeps.ite {p q r : Ck4} {c : Prop} [Decidable c] (h : p.Keeps q) (k : p.Keeps r) :
    p.Keeps (if c then q else r) := by
  split <;> assumption

theorem Ck4.Keeps.foldl {α : Type} (f : Ck4 → α → Ck4) (h : ∀ (p : Ck4) (x : α), p.Keeps (f p x)) (l : List α) (p : Ck4) :
    p.Keeps (l.foldl f p) := by
  induction l generalizing p with
  | nil => exact .refl p
  | cons x l ih => exact (h p x).trans (ih _)

theorem Ck4.Acts.keeps {p q : Ck4} (h : p.Acts q) : p.Keeps q where
  notices := h.notices
  attention := h.attention
  table := h.table
  log := by simp only [Ck4.logOk, h.log]; exact id
  shutdown := h.shutdown
  directions := h.directions
  held := by simp only [Ck4.heldOk, h.hold, h.held]; exact id

theorem Ck4.Plays.keeps {p q : Ck4} (h : p.Plays q) : p.Keeps q := h.acts.keeps
theorem Ck4.Allots.keeps {p q : Ck4} (h : p.Allots q) : p.Keeps q := h.acts.keeps

/-! ### The inventory (02) -/

/-- An update of the inventory's figures. -/
theorem setInventory_keeps (p : Ck4) (i : Inventory) : p.Keeps { p with inventory := i } := ⟨id, id, id, id, id, id, id⟩

/-- R52: a result is stored, and SHORTFALL may be posted; nothing else. -/
theorem storeProjection_eq (p : Ck4) (r : ProjectionResult) : p.storeProjection r = { p with
    inventory := { p.inventory with stored := r }
    station := { p.station with
      notices := (p.storeProjection r).station.notices
      attentionPending := (p.storeProjection r).station.attentionPending } } := by
  unfold Ck4.storeProjection; simp only; split <;> rfl

theorem storeProjection_keeps (p : Ck4) (r : ProjectionResult) : p.Keeps (p.storeProjection r) :=
  .ite ((setInventory_keeps p _).trans (post_allots _ _ _ _).keeps) (setInventory_keeps p _)

/-- R44: a projection changes the stored result and may post SHORTFALL; nothing else. -/
theorem runProjection_eq (p : Ck4) : p.runProjection = { p with
    inventory := { p.inventory with stored := p.runProjection.inventory.stored }
    station := { p.station with
      notices := p.runProjection.station.notices, attentionPending := p.runProjection.station.attentionPending } } := by
  unfold Ck4.runProjection
  split
  · rfl
  · simp only [Ck4.storeProjection]; split <;> rfl

theorem runProjection_keeps (p : Ck4) : p.Keeps p.runProjection := by
  unfold Ck4.runProjection
  split
  · exact .refl p
  · exact storeProjection_keeps _ _

theorem refreshLimits_keeps (p : Ck4) : p.Keeps p.refreshLimits := by
  unfold Ck4.refreshLimits
  split
  · exact .refl p
  · exact .ite (.ite (setInventory_keeps p _) (setInventory_keeps p _)) (.refl p)

theorem refreshDerived_keeps (p : Ck4) : p.Keeps p.refreshDerived := .ite (setInventory_keeps p _) (.refl p)

/-- R27 to R29. -/
theorem takeTotaliser_keeps (p : Ck4) (m : MachineId) (t : Nat) : p.Keeps (p.takeTotaliser m t) := by
  unfold Ck4.takeTotaliser
  split
  · exact setInventory_keeps p _
  · exact .ite ((setInventory_keeps p _).trans (recordFault_acts _ _).keeps)
      ((setInventory_keeps p _).trans (.ite (.refl _) ((setInventory_keeps _ _).trans (refreshDerived_keeps _))))

theorem endFrozen_keeps (p : Ck4) : p.Keeps p.endFrozen := .ite (setInventory_keeps p _) (.refl p)

theorem takeTemperature_keeps (p : Ck4) (n : Nat) (t : Option Int) : p.Keeps (p.takeTemperature n t) := by
  unfold Ck4.takeTemperature
  split
  · exact .refl p
  · exact .ite (((setInventory_keeps p _).trans (refreshLimits_keeps _)).trans (refreshDerived_keeps _))
      (recordFault_acts _ _).keeps

theorem reseed_keeps (p : Ck4) (n t k : Nat) (r : Int) : p.Keeps (p.reseed n t k r) :=
  (((setInventory_keeps p _).trans (recordFault_acts _ _).keeps).trans (post_allots _ _ _ _).keeps).trans (runProjection_keeps _)

theorem reconcile_keeps (p : Ck4) (n t k : Nat) : p.Keeps (p.reconcile n t k) :=
  .ite (setInventory_keeps p _) (.ite ((setInventory_keeps p _).trans (reseed_keeps _ _ _ _ _)) (setInventory_keeps p _))

theorem takePressure_keeps (p : Ck4) (n : Nat) (k : Option Nat) : p.Keeps (p.takePressure n k) := by
  unfold Ck4.takePressure
  split
  · exact .refl p
  · split
    · unfold Ck4.seed
      simp only
      split
      · exact setInventory_keeps p _
      · exact .ite (((setInventory_keeps p _).trans (post_allots _ _ _ _).keeps).trans (runProjection_keeps _))
          (setInventory_keeps p _)
    · split
      · exact setInventory_keeps p _
      · exact reconcile_keeps _ _ _ _

/-- R30. -/
theorem cavernRecord_keeps (p : Ck4) (n : Nat) (k : Option Nat) (t : Option Int) : p.Keeps (p.cavernRecord n k t) :=
  ((((endFrozen_keeps p).trans (takeTemperature_keeps _ _ _)).trans (handMargins_plays _ _).keeps).trans
    (takePressure_keeps _ _ _)).trans ((refreshDerived_keeps _).trans (handMargins_plays _ _).keeps)

theorem freezeInventory_keeps (p : Ck4) : p.Keeps p.freezeInventory := by
  unfold Ck4.freezeInventory
  split <;> exact setInventory_keeps p _

/-! ### Records and source states (09) -/

/-- R101. -/
theorem machineRecord_keeps (p : Ck4) (m : MachineId) (r : Report) (w : Int) (i : Option Int) (t : Nat) :
    p.Keeps (p.machineRecord m r w i t) := by
  have h (q : Ck4) : q.Keeps (Ck4.handMargins q (q.takeTotaliser m t)) :=
    (takeTotaliser_keeps q m t).trans (handMargins_plays _ _).keeps
  exact ((setMach_plays p m _ (by rfl)).keeps.trans (h _)).trans
    (.ite (judgeReport_acts _ _ _).keeps ((setMach_plays _ m _ (by rfl)).keeps.trans
      (.ite (adopt_acts _ _ _).keeps (judgeReport_acts _ _ _).keeps)))

/-- A change of the plant link alone. -/
theorem setLink_keeps (p : Ck4) (l : PlantLink) : p.Keeps { p with plantLink := l } := ⟨id, id, id, id, id, id, id⟩

theorem setSource_keeps (p : Ck4) (i : Nat) (e : SourceEntry) : p.Keeps (p.setSource i e) := setLink_keeps p _

/-- A change of dispatch that leaves the settlement log. -/
theorem setDispatch_keeps (p : Ck4) (d : DispatchUnit) (h : d.log = p.dispatch.log) : p.Keeps { p with dispatch := d } :=
  ⟨id, id, id, by simp only [Ck4.logOk, h]; exact id, id, id, id⟩

theorem gridRecord_keeps (p : Ck4) (f : Option Nat) (e i : Nat) : p.Keeps (p.gridRecord f e i) := setDispatch_keeps p _ (by rfl)

theorem machineSource_keeps (p : Ck4) (m : MachineId) (s : SourceState) : p.Keeps (p.machineSource m s) :=
  .ite ((setMach_plays p m _ (by rfl)).keeps.trans (setInventory_keeps _ _)) (setMach_plays p m _ (by rfl)).keeps

/-- R177 step 1. -/
theorem handSource_keeps (p : Ck4) (e : SourceEntry) (s : SourceState) : p.Keeps (p.handSource e s) := by
  unfold Ck4.handSource
  split
  · exact .refl p
  · split
    · exact machineSource_keeps _ _ _
    · exact .refl p
  · split
    · exact machineSource_keeps _ _ _
    · exact .refl p
  · split
    · exact (vesselSource_acts _ _ _).keeps
    · exact .refl p
  · exact .ite (.refl p) (freezeInventory_keeps p)
  · exact setDispatch_keeps p _ (by rfl)

/-- R177. -/
theorem sourceChange_keeps (p : Ck4) (i : Nat) (e : SourceEntry) (s : SourceState) : p.Keeps (p.sourceChange i e s) :=
  (((setSource_keeps p i _).trans (handSource_keeps _ _ _)).trans (.ite (setSource_keeps _ _ _) (.refl _))).trans
    (post_allots _ _ _ _).keeps

theorem sourceToStale_keeps (p : Ck4) (i : Nat) : p.Keeps (p.sourceToStale i) := .ite (sourceChange_keeps _ _ _ _) (.refl p)

theorem sourceToLost_keeps (p : Ck4) (i : Nat) : p.Keeps (p.sourceToLost i) :=
  .ite ((sourceChange_keeps _ _ _ _).trans (takeFault_acts _ _).keeps) (.refl p)

/-- R181. -/
theorem compareEcho_keeps (p : Ck4) (d : Dest) (n : Nat) : p.Keeps (p.compareEcho d n).2 := by
  unfold Ck4.compareEcho
  simp only
  split
  · split
    · exact .refl p
    · split
      · exact (((setSlot_allots p _ _).keeps.trans (setLink_keeps _ _))).trans (setMach_plays _ _ _ (by rfl)).keeps
      · exact (setSlot_allots p _ _).keeps.trans (setLink_keeps _ _)
  · exact .refl p

theorem handRecord_keeps (p : Ck4) (i : Nat) (x : List Byte) : p.Keeps (p.handRecord i x) := by
  unfold Ck4.handRecord
  simp only
  split
  · split
    · exact (compareEcho_keeps _ _ _).trans (vesselRecord_acts _ _ _ _ _ _).keeps
    · exact .refl p
  · exact cavernRecord_keeps _ _ _ _
  · exact gridRecord_keeps _ _ _ _
  · split
    · exact (compareEcho_keeps _ _ _).trans (machineRecord_keeps _ _ _ _ _ _)
    · exact .refl p

/-- R176. -/
theorem acceptRecord_keeps (p : Ck4) (i : Nat) (x : List Byte) : p.Keeps (p.acceptRecord i x) :=
  ((setSource_keeps p i _).trans (.ite (.refl _) (sourceChange_keeps _ _ _ _))).trans (handRecord_keeps _ _ _)

theorem takeFrame_keeps (p : Ck4) (f : PlantFrame) : p.Keeps (p.takeFrame f) := by
  unfold Ck4.takeFrame
  split
  · exact setLink_keeps p _
  · exact .ite (setLink_keeps p _) (acceptRecord_keeps _ _ _)

theorem takeOldest_keeps (p : Ck4) : p.Keeps p.takeOldest := by
  unfold Ck4.takeOldest
  split
  · exact .refl p
  · exact (setLink_keeps p _).trans (takeFrame_keeps _ _)

theorem huntPlant_keeps (p : Ck4) : p.Keeps p.huntPlant := setLink_keeps p _

theorem plantGap_keeps (p : Ck4) : p.Keeps p.plantGap := .ite (setLink_keeps p _) (setLink_keeps p _)

theorem receivePlantByte_keeps (p : Ck4) (b : Byte) : p.Keeps (p.receivePlantByte b) := by
  unfold Ck4.receivePlantByte
  split
  · exact .refl p
  · exact huntPlant_keeps p
  · exact setLink_keeps p _
  · exact setLink_keeps p _
  · exact .ite (.ite (setLink_keeps p _) (setLink_keeps p _)) (setLink_keeps p _)

/-- R175. -/
theorem plantFrame_keeps (p : Ck4) (x : List Byte) : p.Keeps (p.plantFrame x) :=
  Ck4.Keeps.foldl _ (fun q b => (Ck4.Keeps.ite (plantGap_keeps q) (.refl q)).trans (receivePlantByte_keeps _ b)) x p

theorem orderSent_keeps (p : Ck4) : p.Keeps p.orderSent := by
  unfold Ck4.orderSent
  split
  · exact .refl p
  · exact .ite (setLink_keeps p _) ((setLink_keeps p _).trans (setSlot_allots _ _ _).keeps)

theorem repeatDue_keeps (p : Ck4) (d : Dest) : p.Keeps (p.repeatDue d) :=
  .ite ((setSlot_allots p d _).keeps.trans (setLink_keeps _ _)) (.refl p)

/-- R182. -/
theorem confirmTimeout_keeps (p : Ck4) (d : Dest) : p.Keeps (p.confirmTimeout d) :=
  .ite (.ite (setSlot_allots p d _).keeps ((setSlot_allots p d _).keeps.trans (takeFault_acts _ _).keeps)) (.refl p)

theorem judgeAge_keeps (p : Ck4) (i : Nat) : p.Keeps (p.judgeAge i) := by
  unfold Ck4.judgeAge
  split
  · exact .refl p
  · have h (c : Prop) [Decidable c] (j : Nat) : p.Keeps (if c then p.sourceToStale j else p) :=
      .ite (sourceToStale_keeps p j) (.refl p)
    exact .ite ((h _ _).trans (sourceToLost_keeps _ _)) (h _ _)

/-! ### Bypass permission, lines (03, 08) -/

/-- R65. -/
theorem recomputeBypass_keeps (p : Ck4) : p.Keeps p.recomputeBypass := by
  have h (b : Bool) : p.Keeps { p with allocator := { p.allocator with bypassPermitted := b } } := ⟨id, id, id, id, id, id, id⟩
  have g : p.Keeps (Ck4.runProjection { p with allocator := { p.allocator with bypassPermitted := p.permissionNow } }) :=
    (h _).trans (runProjection_keeps _)
  exact .ite (.refl p) (.ite g (g.trans
    (Ck4.Plays.foldl _ (fun q m => .ite (unloadRequest_plays q m _) (.refl q)) _ _).keeps))

/-- R73, R121. -/
theorem takeReserve_keeps (p : Ck4) (z : Int) : p.Keeps (p.takeReserve z) := by
  have h : p.Keeps { p with allocator := { p.allocator with reserve := z } } := ⟨id, id, id, id, id, id, id⟩
  exact .ite (h.trans (releaseHeld_allots _).keeps) h

theorem handEdge_keeps (p : Ck4) (i : Nat) (f : InputFunction) (e : Edge) : p.Keeps (p.handEdge i f e) := by
  unfold Ck4.handEdge
  split
  · unfold Ck4.activeEdge
    split <;> first | exact (takeFault_acts _ _).keeps | exact recomputeBypass_keeps p | exact .refl p
  · unfold Ck4.inactiveEdge
    split
    · exact .ite (takeFault_acts _ _).keeps (.refl p)
    · exact recomputeBypass_keeps p
    · exact .refl p
  · exact .ite (recomputeBypass_keeps p) (.refl p)

/-- A change of the line unit alone. -/
theorem setLines_keeps (p : Ck4) (l : LineUnit) : p.Keeps { p with lines := l } := ⟨id, id, id, id, id, id, id⟩

/-- R163, R164. -/
theorem qualify_keeps (p : Ck4) (i : Nat) (l : Level) : p.Keeps (p.qualify i l) :=
  .ite (.refl p) ((setLines_keeps p _).trans (handEdge_keeps _ _ _ _))

theorem sampleLine_keeps (p : Ck4) (i : Nat) (l : Level) : p.Keeps (p.sampleLine i l) :=
  .ite ((setLines_keeps p _).trans (qualify_keeps _ _ _)) (setLines_keeps p _)

/-! ### Modes (R95, R135, R151, R194) -/

/-- R135, R194: a change of the mode in which SHUTDOWN is neither entered nor left. -/
theorem changeMode_keeps (p : Ck4) (n : Mode) (hn : n ≠ .shutdown) (hp : p.mode ≠ .shutdown) : p.Keeps (p.changeMode n) := by
  have h : p.Keeps (p.setModeField n) :=
    ⟨id, id, id, id, fun hs => by
      simp only [Ck4.shutdownOk, Ck4.setModeField, beq_iff_eq] at hs ⊢
      rw [hs]; cases n <;> simp_all [Ck4.mode], id, id⟩
  unfold Ck4.changeMode
  simp only
  split
  · exact h.trans (standDown_plays _).keeps
  · exact absurd rfl hn
  · exact .ite h (h.trans (setDispatch_keeps _ _ (by rfl)))
  · exact h

theorem modeTaken_keeps (p : Ck4) (n : Mode) (hn : n ≠ .shutdown) (hp : p.mode ≠ .shutdown) : p.Keeps (p.modeTaken n).2 :=
  .ite (.refl p) (changeMode_keeps p n hn hp)

theorem targetMode_ne (c : Nat) (n : Mode) (h : targetMode c = some n) : n ≠ .shutdown := by
  unfold targetMode at h; split at h <;> cases h <;> nofun

/-- R194. -/
theorem setMode_keeps (p : Ck4) (c : Nat) : p.Keeps (p.setMode c).2 := by
  unfold Ck4.setMode
  split
  · exact .refl p
  · next h =>
    have hn := targetMode_ne _ _ h
    split
    · next hm => exact modeTaken_keeps p _ hn (by rw [hm]; nofun)
    · next hm => exact modeTaken_keeps p _ hn (by rw [hm]; nofun)
    · next hm =>
      have hk := modeTaken_keeps p _ hn (by rw [hm]; nofun)
      split
      · exact hk
      · split
        · exact .refl p
        · split
          · exact .refl p
          · exact hk
    · exact .refl p

theorem endTrip_keeps (p : Ck4) (n : Nat) : p.Keeps (p.endTrip n) := by
  have h : p.Keeps { p with protection := { p.protection with tripInProgress := false } } := ⟨id, id, id, id, id, id, id⟩
  exact h.trans (post_allots _ _ _ _).keeps

/-- R151: the shutdown field and the mode SHUTDOWN are cleared together. -/
theorem leaveShutdown_keeps (p : Ck4) : p.Keeps p.leaveShutdown := by
  have h : p.Keeps (if p.protection.tripInProgress then p.endTrip 1 else p) := .ite (endTrip_keeps p 1) (.refl p)
  have g (q : Ck4) (n : Mode) (hn : n ≠ .shutdown) :
      q.Keeps (Ck4.setModeField { q with protection := { q.protection with shutdown := false } } n) :=
    ⟨id, id, id, id, fun _ => by cases n <;> first | rfl | exact absurd rfl hn, id, id⟩
  have k (q : Ck4) (n : Mode) (hn : n ≠ .shutdown) :
      q.Keeps (Ck4.changeMode { q with protection := { q.protection with shutdown := false } } n) := by
    unfold Ck4.changeMode
    simp only
    split
    · exact (g q _ hn).trans (standDown_plays _).keeps
    · exact absurd rfl hn
    · exact .ite (g q _ hn) ((g q _ hn).trans (setDispatch_keeps _ _ (by rfl)))
    · exact g q _ hn
  exact h.trans (k _ _ (by split <;> nofun))

theorem leaveUnconfigured_keeps (p : Ck4) : p.Keeps p.leaveUnconfigured := by
  unfold Ck4.leaveUnconfigured
  split
  · next h =>
    exact changeMode_keeps p _ (by nofun) (by rw [Bool.and_eq_true, beq_iff_eq] at h; rw [h.1]; nofun)
  · exact .refl p

theorem restartMode_keeps (p : Ck4) : p.Keeps p.restartMode := by
  unfold Ck4.restartMode
  split
  · exact .refl p
  · next h => exact changeMode_keeps p _ (by nofun) (by intro e; simp [e] at h)

/-! ### The cycle and settlement (05) -/

theorem handReserve_keeps (p : Ck4) (z : Int) : p.Keeps (p.handReserve z) := .ite (.refl p) (takeReserve_keeps _ _)

/-- R113. -/
theorem cycle_keeps (p : Ck4) : p.Keeps p.cycle :=
  .ite (((((setDispatch_keeps p _ (by rfl)).trans (handReserve_keeps _ _)).trans (setDispatch_keeps _ _ (by rfl))).trans
      (setCommitment_plays _).keeps).trans (setSplit_plays _).keeps)
    ((setDispatch_keeps p _ (by rfl)).trans (handReserve_keeps _ _))

/-- R132: the log takes a record and stays within its bound. -/
theorem pushSettlement_length (l : List Settlement) (r : Settlement) (h : l.length ≤ 16) : (pushSettlement l r).length ≤ 16 := by
  unfold pushSettlement
  split
  · next hl => simp only [Config.settlementLogSize] at hl; simp only [List.length_append, List.length_singleton]; omega
  · simp only [List.length_append, List.length_drop, List.length_singleton]; omega

theorem settleInterval_keeps (p : Ck4) (d i : Nat) (c : Bool) (w : Int) (k : ClosingMark) :
    p.Keeps (p.settleInterval d i c w k) := by
  have h : p.Keeps { p with dispatch := { p.dispatch.restart with
      log := pushSettlement p.dispatch.log (p.dispatch.settlement d i c w k), number := succ16 p.dispatch.number } } :=
    ⟨id, id, id, fun hl => decide_eq_true (pushSettlement_length _ _ (of_decide_eq_true hl)), id, id, id⟩
  exact h.trans (post_allots _ _ _ _).keeps

/-! ### Plant time (07) -/

/-- A change of the schedule alone. -/
theorem setSchedule_keeps (p : Ck4) (s : Schedule) : p.Keeps { p with schedule := s } := ⟨id, id, id, id, id, id, id⟩

/-- A change of plant time alone. -/
theorem setTime_keeps (p : Ck4) (t : TimeBase) : p.Keeps { p with time := t } := ⟨id, id, id, id, id, id, id⟩

theorem postDiscard_keeps (p : Ck4) (n : Nat) (g : Option Staging) : p.Keeps (p.postDiscard n g) := by
  unfold Ck4.postDiscard
  split
  · exact .refl p
  · exact (post_allots _ _ _ _).keeps

/-- R5, R156. -/
theorem handBoundary_keeps (p : Ck4) (k : Nat) (c : ClosingMark) : p.Keeps (p.handBoundary k c) := by
  have hc (q : Ck4) (i : Nat) : q.Keeps (q.closeInterval i c) := (setSchedule_keeps q _).trans (settleInterval_keeps _ _ _ _ _ _)
  have hm (q : Ck4) : q.Keeps q.moveDay := (setSchedule_keeps q _).trans (postDiscard_keeps _ _ _)
  have hs (q : Ck4) (i : Nat) : q.Keeps (q.startInterval i) := (setSchedule_keeps q _).trans (storeProjection_keeps _ _)
  have h : p.Keeps (p.scheduleBoundary k c) :=
    .ite (((hc p _).trans (hm _)).trans (hs _ _)) ((hc p _).trans (hs _ _))
  exact .ite (h.trans (askSave_plays _).keeps) h

theorem boundaryNow_keeps (p : Ck4) : p.Keeps p.boundaryNow := (setTime_keeps p _).trans (handBoundary_keeps _ _ _)

/-- R155: the timers count, and plant time is what it is. -/
theorem tickTimers_keeps (p : Ck4) (d : Nat) (t : TimeBase) : p.Keeps { p.tickTimers d with time := t } :=
  ⟨id, id, id, id, id, id, id⟩

theorem runTo_keeps (p : Ck4) (t : TimeBase) : p.Keeps (p.runTo t) := tickTimers_keeps p _ _

theorem reachBoundary_keeps (p : Ck4) : p.Keeps p.reachBoundary :=
  .ite ((runTo_keeps p _).trans (boundaryNow_keeps _)) (.refl p)

theorem crossBoundaries_keeps (p : Ck4) (b i n : Nat) : p.Keeps (p.crossBoundaries b i n) := by
  induction n generalizing p i with
  | zero => exact .refl p
  | succ n ih => exact (handBoundary_keeps p _ _).trans (ih _ _)

/-- R157 to R159. -/
theorem applyTime_keeps (p : Ck4) (d s ms : Nat) : p.Keeps (p.applyTime d s ms) := by
  have he (q : Ck4) : q.Keeps q.establishPages := (setSchedule_keeps q _).trans (runProjection_keeps _)
  have hw (t : TimeBase) (x : Schedule) : p.Keeps { p with time := t, schedule := x } := ⟨id, id, id, id, id, id, id⟩
  unfold Ck4.applyTime
  split
  · exact ((setTime_keeps p _).trans (he _)).trans (post_allots _ _ _ _).keeps
  · have h := ((setTime_keeps p (p.time.set d s ms .forward (p.time.stepSize d s ms))).trans
      (post_allots _ .timeStepped 1 (p.time.stepSize d s ms)).keeps).trans
      (crossBoundaries_keeps _ (p.time.second / 900) 1 (p.time.crossed d s ms))
    exact .ite h (h.trans (setTime_keeps _ _))
  · exact (((hw _ _).trans (postDiscard_keeps _ _ _)).trans (he _)).trans (post_allots _ _ _ _).keeps

theorem reachEnd_keeps (p : Ck4) : p.Keeps p.reachEnd :=
  .ite ((runTo_keeps p _).trans (post_allots _ _ _ _).keeps) (.refl p)

/-! ### The warm restart (R195) -/

theorem restartBinding_allots (p : Ck4) (m : MachineId) : p.Allots (p.restartBinding m) :=
  (Ck4.Allots.ite ((freeVessel?_allots _ _).trans (restoreBound_allots _ _)) (.refl p)).trans (setBinding_allots _ _ _)

/-- R96: one machine is taken up. -/
theorem takeUp_plays (p : Ck4) (m : MachineId) (b : Bool) : p.Plays (p.takeUp m b) := by
  unfold Ck4.takeUp
  split
  · exact .refl p
  · exact .ite (.refl p) ((setMach_plays p m _ (by rfl)).trans (placeMachine_plays _ _ _ _))
  · exact .refl p
  · next h => exact .ite (transitionOrder_plays_in p m _ _ _ (by rw [h]; rfl)) (transition_plays_out p m _ _ (by rfl))
  · next h => exact transitionOrder_plays_in p m _ _ _ (by rw [h]; rfl)
  · exact placeMachine_plays _ _ _ _
  · exact placeMachine_plays _ _ _ _
  · exact placeMachine_plays _ _ _ _
  · exact placeMachine_plays _ _ _ _

theorem restartSequencer_plays (p : Ck4) : p.Plays p.restartSequencer :=
  (Ck4.Plays.foldl _ (fun q m => setMach_plays q m _ (by rfl)) _ p).trans
    (Ck4.Plays.foldl _ (fun q m => takeUp_plays q m _) _ _)

theorem warmRestart_keeps (p : Ck4) : p.Keeps p.warmRestart := by
  have h1 : p.Keeps p.restartStation := ⟨fun _ => rfl, fun _ => rfl, id, id, id, id, id⟩
  have h2 (q : Ck4) : q.Keeps q.restartLink :=
    (Ck4.Allots.foldl _ (fun r d => setSlot_allots r d _) _ q).keeps.trans (setLink_keeps _ _)
  have h3 (q : Ck4) : q.Keeps q.restartAllocator :=
    (Ck4.Allots.foldl _ restartBinding_allots _ q).keeps.trans (recomputeBypass_keeps _)
  have h4 (q : Ck4) : q.Keeps { q with
      schedule := { q.schedule with staging := none }, dispatch := { q.dispatch with manualTarget := 0 } } :=
    ⟨id, id, id, id, id, id, id⟩
  exact (((((h1.trans (h2 _)).trans (h3 _)).trans (restartSequencer_plays _).keeps)).trans (h4 _)).trans (restartMode_keeps _)

/-! ### Constants (11) -/

theorem reassign_keeps (p : Ck4) (vs : List Int) (i : Nat) : p.Keeps (p.reassign vs i) :=
  .ite (.refl p) (.ite (setSource_keeps p _ _) ((setSource_keeps p _ _).trans (sourceChange_keeps _ _ _ _)))

theorem portStored_keeps (p : Ck4) (vs : List Int) (b : Bool) : p.Keeps (p.portStored vs b) :=
  ((Ck4.Keeps.ite (.refl p) (Ck4.Allots.foldl _ (fun q d => setSlot_allots q d _) _ p).keeps).trans
    (Ck4.Keeps.foldl _ (fun q i => reassign_keeps q vs i) _ _)).trans (Ck4.Keeps.foldl _ (fun q i => judgeAge_keeps q i) _ _)

theorem machinesStored_keeps (p : Ck4) (x : SectionImage) : p.Keeps (p.machinesStored x) :=
  .ite (setDispatch_keeps p _ (by rfl)) (.refl p)

theorem handSection_keeps (p : Ck4) (s : SectionId) (vs : List Int) (x : SectionImage) : p.Keeps (p.handSection s vs x) := by
  have h : p.Keeps p.inventoryStored :=
    ((refreshLimits_keeps p).trans (refreshDerived_keeps _)).trans (handMargins_plays _ _).keeps
  cases s
  · exact h
  · exact h
  · exact machinesStored_keeps p x
  · exact (vesselsStored_acts p).keeps
  · exact .refl p
  · exact portStored_keeps p vs x.good
  · exact (setLines_keeps p _).trans (recomputeBypass_keeps _)

/-- R193. -/
theorem completeStore_keeps (p : Ck4) : p.Keeps p.completeStore := by
  unfold Ck4.completeStore
  split
  · exact .refl p
  · have h (s : Sections) : p.Keeps { p with constants := { p.constants with sections := s, store := none } } :=
      ⟨id, id, id, id, id, id, id⟩
    exact (((h _).trans (handSection_keeps _ _ _ _)).trans (post_allots _ _ _ _).keeps).trans (leaveUnconfigured_keeps _)

theorem completeSave_keeps (p : Ck4) : p.Keeps p.completeSave := by
  unfold Ck4.completeSave
  split
  · exact .refl p
  · simp only
    split <;> exact ⟨id, id, id, id, id, id, id⟩

/-! ### Timers (R107, R86, R93) -/

theorem counterFires_keeps (p : Ck4) : p.Keeps p.counterFires := by
  have h : p.Keeps { p with sequencer := { p.sequencer with counterTimer := p.nextSecond } } := ⟨id, id, id, id, id, id, id⟩
  exact h.trans (Ck4.Plays.foldl _ (fun q m => setMach_plays q m _ (by rfl)) _ _).keeps

theorem cycleFires_keeps (p : Ck4) : p.Keeps p.cycleFires := (setDispatch_keeps p _ (by rfl)).trans (cycle_keeps _)

theorem startExpires_keeps (p : Ck4) (m : MachineId) : p.Keeps (p.startExpires m) := .ite (startTimeout_acts _ _).keeps (.refl p)

theorem lingerExpires_keeps (p : Ck4) (m : MachineId) : p.Keeps (p.lingerExpires m) :=
  .ite (transitionOrder_plays_out _ m _ _ _ (by rfl)).keeps (.refl p)

theorem switchExpires_keeps (p : Ck4) (m : MachineId) : p.Keeps (p.switchExpires m) := .ite (giveUpTarget_acts _ _ _).keeps (.refl p)

theorem discardStaging_keeps (p : Ck4) : p.Keeps p.discardStaging := (setSchedule_keeps p _).trans (postDiscard_keeps _ _ _)

/-- R155: one millisecond. -/
theorem tick_keeps (p : Ck4) : p.Keeps p.tick :=
  .ite ((tickTimers_keeps p 1 _).trans (boundaryNow_keeps _)) (tickTimers_keeps p 1 _)

/-! ### Requests -/

/-- R63: the held flags are set from the hold count that is stored with them. -/
theorem setHold_held (p : Ck4) (n : Nat) (h : n ≤ 7) :
    Ck4.heldOk { p.setHeld n with allocator := { (p.setHeld n).allocator with hold := n } } = true := by
  simp [Ck4.heldOk, h, Ck4.setHeld, allVessels, Ck4.setVessel, Ck4.vessel, PerVessel.set, PerVessel.get]

theorem admit_keeps (p : Ck4) (s : Schedule) : p.Keeps (p.admitChange s).2 := by
  unfold Ck4.admitChange
  simp only
  split
  · exact (setSchedule_keeps p _).trans (storeProjection_keeps _ _)
  · exact .refl p

theorem propose_keeps (p : Ck4) (s : Schedule) (b n : Nat) : p.Keeps (p.propose s b n).2 := by
  unfold Ck4.propose
  split
  · exact admit_keeps p s
  · exact setSchedule_keeps p s

theorem storeWindow_keeps (p : Ck4) (s : Schedule) : p.Keeps (p.storeWindow s) := by
  have h : p.Keeps (Ck4.runProjection { p with schedule := s }) := (setSchedule_keeps p s).trans (runProjection_keeps _)
  exact .ite (h.trans (post_allots _ _ _ _).keeps) h

theorem changeFreeze_keeps (p : Ck4) (b : Bool) : p.Keeps (p.changeFreeze b) := by
  have h : p.Keeps { p with allocator := { p.allocator with freeze := b } } := ⟨id, id, id, id, id, id, id⟩
  exact (h.trans (runProjection_keeps _)).trans (takeEligible_allots _ _).keeps

theorem acknowledgeAll_plays (p : Ck4) : p.Plays p.acknowledgeAll := Ck4.Plays.foldl _ acknowledge_plays _ p

/-- R153: what is removed from the table shortens it. -/
theorem removeRecord_length (n : Nat) (l : List FaultRecord) : (removeRecord n l).length ≤ l.length := by
  induction l with
  | nil => exact Nat.le_refl _
  | cons r l ih =>
    unfold removeRecord
    split
    · exact Nat.le_succ _
    · exact Nat.succ_le_succ ih

theorem keepFaults_keeps (p : Ck4) (l : List FaultRecord) (h : l.length ≤ p.protection.table.length) :
    p.Keeps (p.keepFaults l).2 :=
  ⟨id, id, fun ht => decide_eq_true (Nat.le_trans h (of_decide_eq_true ht)), id, id, id, id⟩

/-- R190: the notices fetched leave the form, and attention stays pending exactly while some are left. -/
theorem fetchNotices_keeps (p : Ck4) (n : Nat) : p.Keeps (p.fetchNotices n).2 := by
  unfold Ck4.fetchNotices
  split
  · exact .refl p
  · refine ⟨drop_form _ _, fun h => ?_, id, id, id, id, id⟩
    simp only [Ck4.attentionOk, beq_iff_eq] at h ⊢
    rw [h]
    cases hn : p.station.notices <;> simp

/-- A change of the station link that leaves the notices alone. -/
theorem setStation_keeps (p : Ck4) (l : StationLink) (hn : l.notices = p.station.notices)
    (ha : l.attentionPending = p.station.attentionPending) : p.Keeps { p with station := l } :=
  ⟨by simp only [hn]; exact id, by simp only [Ck4.attentionOk, hn, ha]; exact id, id, id, id, id, id⟩

theorem record_keeps (p : Ck4) (a : Answer) : p.Keeps (p.record a) := setStation_keeps p _ (by rfl) (by rfl)

theorem giveUpFrame_keeps (p : Ck4) : p.Keeps p.giveUpFrame := setStation_keeps p _ (by rfl) (by rfl)

theorem setPhase_keeps (p : Ck4) (x : ReceiverPhase) (b : Option (List Byte)) : p.Keeps (p.setPhase x b) :=
  setStation_keeps p _ (by rfl) (by rfl)

/-! ### The end of a step -/

theorem finish_keeps (p : Ck4) : p.Keeps p.finish := by
  have h1 : p.Keeps p.pumpSave := by
    unfold Ck4.pumpSave
    split
    · exact ⟨id, id, id, id, id, id, id⟩
    · exact .refl p
  have h2 (q : Ck4) : q.Keeps q.pumpReplies := by
    unfold Ck4.pumpReplies
    split
    · exact setStation_keeps q _ (by rfl) (by rfl)
    · exact .refl q
  have h3 (q : Ck4) : q.Keeps q.pumpOrders := by
    unfold Ck4.pumpOrders
    split
    · split
      · split <;> exact setLink_keeps q _
      · exact .refl q
    · exact .refl q
  exact ((h1.trans (h2 _)).trans (h3 _)).trans (setLines_keeps _ _)

end Sys2Proof.Machine
end

