-- ==== Sys2Proof/Laws/Links.lean ====
section
/-! SUPPORT. Bytes, frames and receivers (R175, R185, R197), and the sizes of what replies repeat (12.3). -/

namespace Sys2Proof.Machine

/-! ### Bytes -/

@[simp] theorem bytesOf_length (k n : Nat) : (bytesOf k n).length = k := by
  induction k generalizing n with
  | zero => rfl
  | succ k ih => simp [bytesOf, ih]

@[simp] theorem signedBytes_length (k : Nat) (z : Int) : (signedBytes k z).length = k := bytesOf_length _ _

/-- The bytes of a number spell it back where it fits them. -/
theorem natOf_bytesOf (k n : Nat) (h : n < 256 ^ k) : natOf (bytesOf k n) = n := by
  induction k generalizing n with
  | zero => simp at h; simp [bytesOf, natOf, h]
  | succ k ih =>
    have : n / 256 < 256 ^ k := by rw [Nat.div_lt_iff_lt_mul (by decide)]; rwa [Nat.pow_succ] at h
    simp only [bytesOf, natOf, ih _ this, BitVec.toNat_ofNat]
    omega

/-- A field read at the place where a number's bytes stand reads that number. -/
theorem field_append (pre rest : List Byte) (k n : Nat) (h : n < 256 ^ k) :
    field (pre ++ (bytesOf k n ++ rest)) pre.length k = n := by
  simp only [field, List.drop_left]
  rw [List.take_left' (bytesOf_length k n), natOf_bytesOf k n h]

/-- The low bytes of a signed number read back as it where it fits them. -/
theorem signedOf_toNat (k : Nat) (z : Int) (hk : 1 ≤ k) (h : -(256 ^ k / 2 : Nat) ≤ z) (h' : z < (256 ^ k / 2 : Nat)) :
    signedOf k (z % (256 ^ k : Nat)).toNat = z := by
  unfold signedOf
  have he : 2 * (256 ^ k / 2) = 256 ^ k :=
    Nat.mul_div_cancel' ((by decide : 2 ∣ 256).trans (dvd_pow_self 256 (by omega)))
  generalize 256 ^ k = n at *
  by_cases hz : 0 ≤ z
  · rw [Int.emod_eq_of_lt hz (by omega), if_pos (by omega)]
    omega
  · rw [← Int.add_emod_right, Int.emod_eq_of_lt (by omega) (by omega), if_neg (by omega)]
    omega

/-! ### Frames (R197) -/

theorem frameBody_length (kind tag : Byte) (payload : List Byte) : (frameBody kind tag payload).length = payload.length + 4 := by
  simp [frameBody]; omega

/-- R197: what follows the sync of a frame as sent is a frame with a good CRC. -/
theorem frameBytes_good (kind tag : Byte) (payload : List Byte) (h : payload.length < 65536) :
    frameGood ((frameBytes kind tag payload).drop 2) = true := by
  have hl : field ((frameBytes kind tag payload).drop 2) 0 2 = payload.length := by
    have := field_append [] (kind :: tag :: payload ++ bytesOf 2 (crc16 (frameBody kind tag payload)).toNat) 2 payload.length
      (by simpa using h)
    simpa [frameBytes, frameBody] using this
  have hb := frameBody_length kind tag payload
  have hd : (frameBytes kind tag payload).drop 2 = frameBody kind tag payload ++ bytesOf 2 (crc16 (frameBody kind tag payload)).toNat := by
    simp [frameBytes]
  have hc : field ((frameBytes kind tag payload).drop 2) (payload.length + 4) 2 = (crc16 (frameBody kind tag payload)).toNat := by
    have := field_append (frameBody kind tag payload) [] 2 (crc16 (frameBody kind tag payload)).toNat
      (by have := (crc16 (frameBody kind tag payload)).isLt; omega)
    rw [hd, ← hb]
    simpa using this
  simp only [frameGood, hl, hc]
  rw [hd, List.take_left' hb]
  simp [hb]

/-! ### Receivers (R175, R185) -/

/-- R185: everything a byte can do to a receiver. -/
theorem framing_cases (phase : ReceiverPhase) (held : Option (List Byte)) (b : Byte) :
    (phase = .hunt ∧ ((b = 0xD3#8 ∧ framing phase held b = .takes .syncSeen none) ∨
      (b ≠ 0xD3#8 ∧ framing phase held b = .ignored))) ∨
    (phase = .syncSeen ∧ ((b = 0x1C#8 ∧ framing phase held b = .takes .inFrame (some [])) ∨
      (b = 0xD3#8 ∧ framing phase held b = .takes .syncSeen none) ∨
      (b ≠ 0x1C#8 ∧ b ≠ 0xD3#8 ∧ framing phase held b = .unsynced))) ∨
    (phase = .inFrame ∧ framing phase held b = framedBytes (held.getD [] ++ [b])) := by
  cases phase
  · by_cases h : b = 0xD3#8 <;> simp [framing, h]
  · by_cases h : b = 0x1C#8 <;> by_cases h' : b = 0xD3#8 <;> simp_all [framing]
  · simp [framing]

/-- R175: a byte of the plant link moves the plant link alone, and of it neither the sources, the slots nor the transmitter. -/
theorem plantByte_frame (p : Ck4) (b : Byte) : p.plantByte b = { p with plantLink := { p.plantLink with
    queue := (p.plantByte b).plantLink.queue, phase := (p.plantByte b).plantLink.phase
    inProgress := (p.plantByte b).plantLink.inProgress, lastByte := (p.plantByte b).plantLink.lastByte
    framingErrors := (p.plantByte b).plantLink.framingErrors, drops := (p.plantByte b).plantLink.drops } } := by
  have hg : ∀ q : Ck4, (q = p ∨ q = p.huntPlant ∨ q = p.framingError) → q.receivePlantByte b = { p with
      plantLink := { p.plantLink with
        queue := (q.receivePlantByte b).plantLink.queue, phase := (q.receivePlantByte b).plantLink.phase
        inProgress := (q.receivePlantByte b).plantLink.inProgress, lastByte := (q.receivePlantByte b).plantLink.lastByte
        framingErrors := (q.receivePlantByte b).plantLink.framingErrors, drops := (q.receivePlantByte b).plantLink.drops } } := by
    intro q hq
    have hf : ∀ bytes, q.plantFrameHeld bytes = q.framingError ∨
        ∃ f, q.plantFrameHeld bytes = q.huntPlant.queueFrame f := by
      intro bytes; unfold Ck4.plantFrameHeld; split
      · exact .inr ⟨_, rfl⟩
      · exact .inl rfl
    unfold Ck4.receivePlantByte
    rcases hq with rfl | rfl | rfl <;> split <;> first
      | rfl
      | (rcases hf _ with h | ⟨f, h⟩ <;> rw [h] <;> first | rfl | (unfold Ck4.queueFrame; split <;> rfl))
  unfold Ck4.plantByte Ck4.plantGap
  split
  · split
    · exact hg _ (.inr (.inr rfl))
    · exact hg _ (.inr (.inl rfl))
  · exact hg _ (.inl rfl)

/-- R175: the same of several bytes. -/
theorem plantFrame_frame (p : Ck4) (bytes : List Byte) : p.plantFrame bytes = { p with plantLink := { p.plantLink with
    queue := (p.plantFrame bytes).plantLink.queue, phase := (p.plantFrame bytes).plantLink.phase
    inProgress := (p.plantFrame bytes).plantLink.inProgress, lastByte := (p.plantFrame bytes).plantLink.lastByte
    framingErrors := (p.plantFrame bytes).plantLink.framingErrors, drops := (p.plantFrame bytes).plantLink.drops } } := by
  induction bytes generalizing p with
  | nil => rfl
  | cons b rest ih =>
    have h : p.plantFrame (b :: rest) = (p.plantByte b).plantFrame rest := rfl
    rw [h, ih, plantByte_frame]

/-! ### Sizes (12.3) -/

@[simp] theorem intervalBytes_length (r : IntervalRecord) : (intervalBytes r).length = 12 := by simp [intervalBytes]
@[simp] theorem returnedIntervalBytes_length (r : IntervalReading) : (returnedIntervalBytes r).length = 15 := by
  simp [returnedIntervalBytes]
@[simp] theorem windowBytes_length (i : Nat) (w : Window) : (windowBytes i w).length = 8 := by unfold windowBytes; split <;> simp
@[simp] theorem recordTime_length (t : Option PlantTime) : (recordTime t).length = 6 := by cases t <;> simp [recordTime]
@[simp] theorem faultBytes_length (f : Bool) (r : FaultRecord) : (faultBytes f r).length = 17 := by simp [faultBytes]
@[simp] theorem noticeBytes_length (n : Notice) : (noticeBytes n).length = 14 := by simp [noticeBytes]
/-- An energy in the range of its field is sent as it is. -/
theorem energyBytes_of_fits {z : Int} (low : -2147483648 ≤ z) (high : z ≤ 2147483647) : energyBytes z = signedBytes 4 z :=
  if_pos ⟨low, high⟩
@[simp] theorem energyBytes_length (z : Int) : (energyBytes z).length = 4 := by unfold energyBytes; split <;> simp
@[simp] theorem settlementBytes_length (r : Settlement) : (settlementBytes r).length = 28 := by simp [settlementBytes]

end Sys2Proof.Machine
end

