-- ==== Sys2Proof/WellFormed.lean ====
section
/-! DEFINITION. A command is well formed when each number fits the bytes its payload field has (R199, R200) and each
frame fits the link's frame (R197). A command that is not well formed cannot cross a link; `exec` is total on it all the same. -/

namespace Sys2Proof

/-- A number that fits `k` bytes. -/
def fitsBytes (k n : Nat) : Bool := n < 2 ^ (8 * k)

/-- A signed number that fits `k` bytes, two's complement. -/
def fitsSigned (k : Nat) (z : Int) : Bool := -(2 ^ (8 * k - 1) : Int) ≤ z && z < (2 ^ (8 * k - 1) : Int)

/-- The fields of an offered record fit their bytes (12.3). -/
def OfferedRecord.wf (r : OfferedRecord) : Bool :=
  fitsBytes 1 r.status && fitsSigned 2 r.power && fitsBytes 2 r.up && fitsBytes 2 r.down &&
    match r.reference with
    | none => true
    | some n => fitsBytes 4 n

/-- Every field fits its bytes, and a frame fits the link. -/
def Instr.wf (i : Instr) : Bool :=
  match i with
  | .identify => true
  | .readStatus => true
  | .setMode n => fitsBytes 1 n
  | .loadConstants n vs => fitsBytes 1 n && vs.all (fitsSigned 4) && 1 + 4 * vs.length ≤ Config.maxPayload
  | .readConstants n => fitsBytes 1 n
  | .restart => true
  | .setTime d s ms => fitsBytes 2 d && fitsBytes 4 s && fitsBytes 2 ms
  | .readTime => true
  | .writeIntervals d f c rs =>
      fitsBytes 2 d && fitsBytes 1 f && fitsBytes 1 c && rs.all OfferedRecord.wf && 4 + 12 * rs.length ≤ Config.maxPayload
  | .readIntervals d n => fitsBytes 2 d && fitsBytes 1 n
  | .beginDayLoad d => fitsBytes 2 d
  | .stageIntervals f c rs =>
      fitsBytes 1 f && fitsBytes 1 c && rs.all OfferedRecord.wf && 2 + 12 * rs.length ≤ Config.maxPayload
  | .commitDayLoad => true
  | .cancelDayLoad => true
  | .setWindow n k m f l v =>
      fitsBytes 1 n && fitsBytes 1 k && fitsBytes 1 m && fitsBytes 1 f && fitsBytes 1 l && fitsSigned 2 v
  | .clearWindow n => fitsBytes 1 n
  | .readWindows => true
  | .setManualTarget z => fitsSigned 2 z
  | .setRampGear n => fitsBytes 1 n
  | .readSettlements => true
  | .readDispatch => true
  | .readInventory => true
  | .setHold n => fitsBytes 1 n
  | .setFreeze n => fitsBytes 1 n
  | .setBypass n => fitsBytes 1 n
  | .isolateVessel n => fitsBytes 1 n
  | .restoreVessel n => fitsBytes 1 n
  | .readVessels => true
  | .readMachines => true
  | .readCounters => true
  | .releaseLockout n => fitsBytes 1 n
  | .ackTrip => true
  | .clearShutdown => true
  | .readFaults => true
  | .clearFaults s n => fitsBytes 1 s && fitsBytes 2 n
  | .setGroupEnable g v => fitsBytes 1 g && fitsBytes 1 v
  | .fetchNotices n => fitsBytes 1 n
  | .setAttentionMask n => fitsBytes 1 n
  | .readLines => true
  | .readSources n => fitsBytes 1 n
  | .stationFrameReceived _ _ payload => payload.length ≤ Config.maxPayload
  | .stationFrameGapTimeout => true
  | .characterFramingError => true
  | .linkResynchronisation => true
  | .replySent => true
  | .busyReplySent => true
  | .plantFrameReceived frame => 1 ≤ frame.length && frame.length ≤ 65543
  | .plantFrameGapTimeout => true
  | .plantLinkBreak => true
  | .recordTaken => true
  | .sourceStale _ => true
  | .sourceLost _ => true
  | .orderFrameSent => true
  | .orderRepeatDue _ => true
  | .orderUnconfirmed _ => true
  | .intervalBoundary => true
  | .counterSaveComplete => true
  | .endOfRange => true
  | .stagingDiscardTimeout => true
  | .dispatchCycle => true
  | .dwellExpired => true
  | .startTimerExpired _ => true
  | .lingerExpired _ => true
  | .counterTick => true
  | .switchTimeout _ => true
  | .inputQualifiedChange _ _ => true
  | .constantsStoreComplete => true
  | .warmRestart => true
  | .powerOnReset => true
  | .stationByteReceived _ => true
  | .inputSample _ _ => true

end Sys2Proof
end

