-- ==== Sys2Proof/Tests/Slice0.lean ====
section
/-! SUPPORT. Our own tests: the WellFormed smoke test, small checks of one step or one operation against the spec's worked cases,
and for each obligation with hypotheses a state and operands that meet them. -/

set_option Elab.async false

namespace Sys2Proof.Tests
open Sys2Proof Sys2Proof.Machine

/-! ### WellFormed: for each check an ill-formed command that it refuses -/

theorem test_wf_byte_operands : (∀ c ∈ ([.setMode 256, .readConstants 256, .readIntervals 0 256, .clearWindow 256, .setRampGear 256,
    .setHold 256, .setFreeze 256, .setBypass 256, .isolateVessel 256, .restoreVessel 256, .releaseLockout 256, .fetchNotices 256,
    .setAttentionMask 256, .readSources 256, .setGroupEnable 256 0, .setGroupEnable 2 256, .clearFaults 256 0,
    .loadConstants 256 [], .writeIntervals 0 256 0 [], .writeIntervals 0 0 256 [], .stageIntervals 256 0 [],
    .stageIntervals 0 256 [], .setWindow 256 0 1 0 0 0, .setWindow 0 256 1 0 0 0, .setWindow 0 0 256 0 0 0,
    .setWindow 0 0 1 256 0 0, .setWindow 0 0 1 0 256 0] : List Instr), c.wf = false) ∧
    (Instr.setMode 255).wf = true := by decide

theorem test_wf_wide_operands : (∀ c ∈ ([.setTime 65536 0 0, .setTime 0 4294967296 0, .setTime 0 0 65536, .beginDayLoad 65536,
    .readIntervals 65536 0, .writeIntervals 65536 0 0 [], .clearFaults 0 65536, .setManualTarget 32768, .setManualTarget (-32769),
    .setWindow 0 1 1 0 0 32768, .loadConstants 0 [2147483648], .loadConstants 0 [-2147483649]] : List Instr), c.wf = false) ∧
    (Instr.setManualTarget (-32768)).wf = true := by decide

theorem test_wf_records : (∀ r ∈ ([⟨256, 0, 0, 0, none⟩, ⟨0, 32768, 0, 0, none⟩, ⟨0, 0, 65536, 0, none⟩, ⟨0, 0, 0, 65536, none⟩,
    ⟨0, 0, 0, 0, some 4294967296⟩] : List OfferedRecord),
    r.wf = false ∧ (Instr.writeIntervals 0 0 1 [r]).wf = false ∧ (Instr.stageIntervals 0 1 [r]).wf = false) ∧
    (Instr.writeIntervals 0 0 1 [⟨2, -32768, 65535, 65535, some 4294967295⟩]).wf = true := by decide

theorem test_wf_payloads : (Instr.loadConstants 5 (List.replicate 120 0)).wf = false ∧
    (Instr.writeIntervals 0 0 40 (List.replicate 40 ⟨0, 0, 0, 0, none⟩)).wf = false ∧
    (Instr.stageIntervals 0 40 (List.replicate 40 ⟨0, 0, 0, 0, none⟩)).wf = false ∧
    (Instr.stationFrameReceived 1#8 0#8 (List.replicate 481 0#8)).wf = false ∧
    (Instr.plantFrameReceived []).wf = false := by decide +kernel

theorem test_decode_none : decodeTableWord 32 0 = none ∧ decodeTableWord 0 7 = none := by decide

/-! ### The plant of the worked cases -/

/-- 02 section 2.9's worked case, with tol 50, k 4, N_drift 3 of section 2.5. -/
def cavernValues : List Int := [560000, 287050, 4600, 8200, 200, 150, 50, 4, 3, 100000]
/-- The yields of the same case. -/
def energyValues : List Int := [1500, 2000, 1900, 1750]
/-- 05 section 5.6's worked case: C1, C2 900 and 300, C3 300 and 200, E1 1000 and 300, E2 800 and 250. -/
def machineValues : List Int :=
  [900, 300, 600, 900, 300, 600, 300, 200, 600, 1000, 300, 600, 800, 250, 600, 1800, 7200, 60, 300, 40, 50]
/-- 03 section 3.3's worked case. -/
def vesselValues : List Int := [4000, 4000, 4000, 4000, 4000, 4000, 4000, 4000, 500, 4500, 4000, 5600, 120]
/-- 05 section 5.4's worked case, with gate lead 3. -/
def marketValues : List Int := [3, 50000, 10, 200]
/-- The fifteen sources, in an order of our own, with the thresholds of each kind. -/
def portValues : List Int :=
  [1, 1, 1, 2, 1, 2, 3, 1, 3, 4, 2, 1, 5, 2, 2, 40, 3, 0, 41, 3, 1, 42, 3, 2, 43, 3, 3, 44, 3, 4, 45, 3, 5, 46, 3, 6, 47, 3, 7,
    60, 4, 0, 61, 5, 0] ++ List.replicate 27 0 ++ List.replicate 5 1500 ++ List.replicate 5 6000 ++ [500, 5]

/-- The plant in a mode, with plant time not valid, every section good, sources and lines as after power-on. -/
def plant (m : Mode) : Ck4 :=
  { Ck4.blank with
    plantLink := { PlantLink.powerOn with sources := (List.range 24).map (newEntry portValues) }
    constants := { Constants.blank with
      mode := m
      sections := ⟨⟨cavernValues, 0, true⟩, ⟨energyValues, 0, true⟩, ⟨machineValues, 0, true⟩, ⟨vesselValues, 0, true⟩,
        ⟨marketValues, 0, true⟩, ⟨portValues, 0, true⟩, ⟨[], 0, true⟩⟩ } }

/-- The plant with plant time at a second of day 20,412. -/
def clocked (m : Mode) (second : Nat) : Ck4 :=
  { plant m with
    time := { TimeBase.powerOn with valid := true, day := 20412, second := second }
    schedule := { Schedule.powerOn with day := some 20412 } }

/-- A state with no command waiting. -/
def alone (p : Ck4) : State := ⟨p, []⟩

/-- The part after a command, or as it was where the command gives no next state. -/
def after (c : Instr) (p : Ck4) : Ck4 := match exec c (alone p) with | .next t => t.part | _ => p

/-! ### Worked cases of the spec -/

/-- R197: the check value of the CRC. -/
theorem test_crc_check_value : crc16 ("123456789".toList.map fun c => BitVec.ofNat 8 c.toNat) = 0x29B1#16 := by decide +kernel

/-- 12.1: a frame read back from its bytes. -/
theorem test_frame_good : frameGood ((frameBytes 0x20#8 7#8 [3#8]).drop 2) = true ∧
    frameGood (((frameBytes 0x20#8 7#8 [3#8]).drop 2).set 4 2#8) = false := by decide +kernel

/-- 01 section 1.6, the worked case: intervals 40 to 43 under windows 3, 5 and 9. -/
def overlapping : Schedule :=
  { Schedule.powerOn with
    currentPage := List.replicate 40 IntervalRecord.blank ++ [⟨800, 100, 200, true, .locked, none⟩,
      ⟨800, 100, 200, true, .locked, none⟩, ⟨600, 0, 0, false, .dropped, none⟩, ⟨1500, 300, 0, false, .firm, none⟩] ++
      List.replicate 52 .blank
    windows := (((List.replicate 16 Window.free).set 3 ⟨true, .setpoint, 36, 47, 10, 1200⟩).set 5
      ⟨true, .setpoint, 40, 43, 15, 500⟩).set 9 ⟨true, .capDischarge, 32, 63, 15, 1000⟩ }

theorem test_resolution : (List.map (resolve overlapping 0 .auto) [40, 41, 42, 43] =
      [⟨500, 100, 200⟩, ⟨1000, 100, 200⟩, ⟨500, 0, 0⟩, ⟨1000, 300, 0⟩]) ∧
    resolve (overlapping.setWindow 0 ⟨true, .block, 43, 43, 8, 0⟩) 0 .auto 43 = ⟨0, 0, 0⟩ ∧
    resolve overlapping (-400) .manual 40 = ⟨-400, 0, 0⟩ := by decide +kernel

/-- 02 section 2.9, figures at one moment. -/
def moment : Ck4 :=
  Ck4.refreshDerived (Ck4.refreshLimits { plant .auto with inventory := { Inventory.powerOn with
    m := 40000000, state := .tracking, temperature := some 450 } })

theorem test_inventory_figures : moment.inventory.pEst = 6524 ∧ moment.inventory.mMin = 28202535 ∧
    moment.inventory.mMax = 50274082 ∧ moment.inventory.wDis = 11797465 ∧ moment.inventory.wChg = 10274082 ∧
    moment.inventory.mStep = 229911 ∧ moment.inventory.pRateDis = 1379 ∧ moment.inventory.pRateChg = 1839 := by decide +kernel

/-- 02 section 2.5, the worked sequence of four cavern records: correction, two out of tolerance, reseed. -/
theorem test_reconciliation :
    let r1 := moment.cavernRecord 13 (some 6541) (some 450)
    let r3 := (r1.cavernRecord 13 (some 6600) (some 450)).cavernRecord 13 (some 6600) (some 450)
    let r4 := r3.cavernRecord 13 (some 6600) (some 450)
    r1.inventory.m = 40006514 ∧ r1.inventory.pEst = 6525 ∧ r3.inventory.drift = 2 ∧ r3.inventory.state = .drifting ∧
      r4.inventory.m = 40464505 ∧ r4.inventory.pEst = 6600 ∧ r4.inventory.state = .reseeded := by decide +kernel

/-- 02 section 2.9, the worked projection, its four intervals. -/
theorem test_projection :
    let c : ProjectionConstants := ⟨1500, 2000, 1900, 1750, 28202535, 50274082, 229911, 60000, false⟩
    let s0 : Projected := ⟨40006514, 2400000, 1500000, none, Config.massLimit, 0⟩
    let s1 := projectInterval c s0 40 600 ⟨1200, 100, 0⟩
    let s2 := projectInterval c s1 41 900 ⟨1200, 100, 0⟩
    let s3 := projectInterval c s2 42 900 ⟨-1000, 0, 0⟩
    let s4 := projectInterval c s3 43 900 ⟨1500, 300, 0⟩
    s1.mass = 39873180 ∧ s1.heat = 2374666 ∧ s2.room = 1563334 ∧ s3.mass = 39798180 ∧ s3.first = none ∧
      s4.heat = 2311041 ∧ s4.first = some (43, .rate) ∧ s4.minMass = 39548180 ∧ s4.maxMass = 39873180 := by decide +kernel

/-- 03 section 3.3, the worked vessel record: layers 5 and 6 not valid. -/
theorem test_vessel_figures :
    let r := (plant .auto).withFigures .v3 { VesselRecord.powerOn with
      reported := true
      layers := substituteLayers [5500, 5480, 5450, 5300, 4900, 0, 9, 2600, 1400, 900, 700, 620]
        [true, true, true, true, true, false, false, true, true, true, true, true] }
    r.layers.getD 5 0 = 3750 ∧ r.layers.getD 6 0 = 3750 ∧ r.stored = 1374000 ∧ r.usable = 965200 ∧ r.room = 1074000 ∧
      r.content = .partly := by decide +kernel

/-- 03 section 3.5, the worked allocations: the walk and the tree updates. -/
theorem test_tree :
    let zero : Tree := ⟨false, false, false, false, false, false, false⟩
    let free : VesselId → Bool := fun v => v ∈ [VesselId.v1, .v3, .v4, .v5, .v6]
    treeWalk zero free = some .v1 ∧ treeUpdate zero .v1 = ⟨true, true, false, false, false, false, false⟩ ∧
      treeUpdate (treeUpdate zero .v1) .v2 = ⟨true, false, false, false, true, false, false⟩ ∧
      treeUpdate (treeUpdate (treeUpdate zero .v1) .v2) .v7 = ⟨false, false, false, false, true, false, false⟩ := by decide

/-- 05 section 5.4, the worked reserve. -/
theorem test_reserve : ([49995, 49900, 49700, 50050].map fun f => (plant .auto).reserveAt f 300 200) = [0, 142, 300, -42] := by
  decide +kernel

/-- 05 section 5.6, the worked splits. -/
theorem test_shares : (plant .auto).shares 1342 [.e1, .e2] 3 = [(.e1, 746), (.e2, 596)] ∧
    (plant .auto).shares 900 [.c1, .c2, .c3] 3 = [(.c3, 200), (.c1, 350), (.c2, 350)] ∧
    (plant .auto).shares 750 [.c1, .c3] 3 = [(.c3, 200), (.c1, 550)] := by decide +kernel

/-- 05 section 5.8, the worked settlement. -/
theorem test_settlement :
    let d : DispatchUnit := { DispatchUnit.powerOn with
      reserveSum := 78600, shortfallSum := 1452000, meterLost := false, exportKwh := some 32950, importKwh := some 512
      startExport := some 1000, startImport := some 500 }
    d.settlement 20412 41 true 1200 .normal =
      ⟨0, 20412, 41, true, 1200, 30000, 2183, 403, some 31938, some (-245), false⟩ := by decide

/-- 04 section 4.9, the worked choice: C3 has the lowest EOH but its source is STALE, so C1 starts. -/
theorem test_choice_by_eoh :
    let stopped (run starts trips : Nat) (s : SourceState) : MachineRecord :=
      { MachineRecord.powerOn ⟨run, 0, 0, starts, trips⟩ with source := s }
    let p := (((plant .auto).setMach .c1 (stopped 2400000 310 2 .fresh)).setMach .c2 (stopped 2100000 520 4 .fresh)).setMach .c3
      (stopped 2350000 300 5 .stale)
    p.eoh .c1 = 2972400 ∧ p.eoh .c3 = 2926000 ∧ (p.oneMore .charge).1 = some .c1 ∧ ((p.oneMore .charge).2.eoh .c1) = 2974200 ∧
      ((p.oneMore .charge).2.oneMore .charge).1 = some .c2 := by decide +kernel

/-- 08 section 8.3, the worked qualification: a level is taken at the second sample that reads it. -/
theorem test_qualification :
    let line : InputLine := ⟨.estop, .activeLow, 4, some .high, .high, .high, some 0, some .high⟩
    let at_ (p : Ck4) (n : Nat) : Ck4 := { p with time := { p.time with elapsed := n } }
    let p0 := after (.inputSample 0 .low) (at_ ((plant .standby).setInput 0 line) 7)
    let p1 := after (.inputSample 0 .low) (at_ p0 8)
    let p2 := after (.inputSample 0 .low) (at_ p1 16)
    (p0.input 0).raw = .high ∧ (p1.input 0).raw = .low ∧ (p1.input 0).qualified = some .high ∧
      p1.protection.tripInProgress = false ∧ (p2.input 0).qualified = some .low ∧ p2.protection.tripInProgress = true ∧
      p2.protection.table.length = 1 := by decide +kernel

/-- R163: with no command waiting a line is sampled at the level its pin stands at, at the multiples of its check time alone. -/
theorem test_idle_samples :
    let p (n : Nat) : Ck4 := { (plant .standby).setInput 3 ⟨.gridLoss, .activeHigh, 2, some .high, .low, .low, some 0, some .low⟩ with
      time := { TimeBase.powerOn with elapsed := n } }
    (p 2).sampleDue 3 = true ∧ ((p 2).takeSample 3).sampleDue 3 = false ∧ (p 3).sampleDue 3 = false := by decide +kernel

/-- R112: a manual target is checked against the ratings that dispatch still uses after a store of MACHINES. -/
theorem test_manual_target_held :
    let p : Ck4 := { plant .manual with
      dispatch := { (plant .manual).dispatch with held := some machineValues }
      constants := { (plant .manual).constants with
        sections := (plant .manual).constants.sections.set .machines ⟨machineValues.set 12 100, 0, true⟩ } }
    (after (.setManualTarget 1800) p).dispatch.manualTarget = 1800 ∧
    (after (.setManualTarget 1801) p).dispatch.manualTarget = 0 := by decide +kernel

/-- R192: with the ENERGY section bad the energies of a seeded inventory are those of a power-on reset. -/
theorem test_energy_bad :
    let p : Ck4 := { moment with
      allocator := { moment.allocator with bypassPermitted := true }
      constants := { moment.constants with sections := moment.constants.sections.set .energy ⟨energyValues, 0, false⟩ } }
    p.energyCharge = 0 ∧ p.energyDischarge = 0 ∧
      Ck4.energyCharge { p with constants := moment.constants } = 2054816 := by decide +kernel

/-! ### Witnesses: states and operands that meet the hypotheses of the obligations

Each is named after its obligation. Clauses stand in the obligation's order, at boundary values of their ranges. -/

/-- A machine's record with a field or two of its own. -/
def withMach (p : Ck4) (m : MachineId) (f : MachineRecord → MachineRecord) : Ck4 := p.setMach m (f (p.mach m))

/-- A vessel in a use state. -/
def using_ (p : Ck4) (v : VesselId) (u : UseState) : Ck4 := p.setVessel v { p.vessel v with use := u }

/-- The clock at 10:05 of day 20,412 over a seeded inventory, with windows and records all free and EMPTY. -/
def seeded : Ck4 :=
  Ck4.refreshDerived (Ck4.refreshLimits { clocked .auto 36300 with inventory := { Inventory.powerOn with
    m := 40000000, state := .tracking, temperature := some 450 } })

/-- A FIRM and an INDICATIVE offer. -/
def firm (z : Int) : OfferedRecord := ⟨2, z, 0, 0, none⟩
def indicative (z : Int) : OfferedRecord := ⟨1, z, 0, 0, none⟩

/-- A part at the bounds of its queues: 32 notices, 16 fault records, 16 settlements, seven vessels held, a train in service,
in SHUTDOWN with trip in progress and its output asserted. -/
def full : Ck4 :=
  let p := ((clocked .shutdown 36300).setHeld 7)
  { withMach p .c1 (fun r => { r with state := .unloading }) with
    allocator := { p.allocator with hold := 7 }
    lines := { p.lines with outputs := ⟨.plantTrip, .activeHigh, true⟩ :: List.replicate 7 .unassigned }
    dispatch := { p.dispatch with log := List.replicate 16 ⟨0, 0, 0, false, 0, 0, 0, 0, none, none, false⟩ }
    protection := { Protection.powerOn with
      shutdown := true, tripInProgress := true
      table := List.replicate 16 ⟨0, none, ⟨.port, .lost, 0, 0, .warn, true⟩⟩ }
    station := { StationLink.powerOn with
      notices := List.replicate 31 ⟨.shortfall, none, 0, 1⟩ ++ [⟨.overflow, none, 2, 1⟩], attentionPending := true } }

/-- A step that gives a next state, from a queue with a command in it. -/
theorem next_of (c : Instr) (p : Ck4) (q : Ck4) (h : exec c (alone p) = .next ⟨q, []⟩) : ∃ t, step ⟨p, [c]⟩ = .next t := ⟨_, h⟩

theorem witness_IdleStepPassesTime :
    (∃ q, Ck4.due { plant .standby with station := { StationLink.powerOn with restartAsked := true } } = some q) ∧
    (let at_ (day second ms : Nat) : Ck4 := { clocked .standby 0 with
       time := { (clocked .standby 0).time with day := day, second := second, ms := ms } }
     let stopped : Ck4 := { clocked .standby 0 with time := { (at_ 65534 86399 999).time with endOfRange := true } }
     ((plant .standby).due = none ∧ (plant .standby).time.valid = false) ∧ (stopped.due = none ∧ stopped.time.endOfRange = true) ∧
     ((at_ 65533 86399 998).due = none ∧ (at_ 65533 86399 998).time.valid = true) ∧
     ((at_ 65534 86398 999).due = none ∧ (86398 + 1) % 900 ≠ 0) ∧
     (∀ x ∈ [(65533, 86399), (65534, 899)], (at_ x.1 x.2 999).due = none ∧ (x.2 + 1) % 900 = 0) ∧
     Ck4.due { at_ 65534 86399 999 with time := { (at_ 65534 86399 999).time with endOfRange := true } } = none) :=
  ⟨⟨_, rfl⟩, by decide +kernel⟩

/-- A save slot whose CRC is that of its bytes. -/
def goodSlot (n : Nat) : SaveSlot := ⟨n, none, .all ⟨5, 4, 3, 2, 1⟩, crc16 (slotBytes n none (.all ⟨5, 4, 3, 2, 1⟩))⟩

theorem goodSlot_good (n : Nat) : (goodSlot n).good = true := by simp [SaveSlot.good, goodSlot]

/-- A slot whose save was cut is not good. -/
theorem cut_bad (n : Nat) : SaveSlot.good (goodSlot n).cut = false := by
  rw [SaveSlot.good, beq_eq_false_iff_ne]
  intro h
  have := congrArg (BitVec.getLsbD · 0) h
  simp [SaveSlot.cut] at this

theorem witness_EndOfStepFrame :
    let saving (a b : SaveSlot) : Ck4 := { plant .standby with
      sequencer := { (plant .standby).sequencer with saveAsked := true }
      constants := { (plant .standby).constants with slotA := a, slotB := b } }
    let bad : SaveSlot := (goodSlot 7).cut
    let r : Reply := ⟨0x81#8, 0, ⟨.ok, .none⟩⟩
    let link (l : StationLink) : Ck4 := { plant .standby with station := l }
    let due := (plant .standby).place (.machine .c1) (.machine .stop 0)
    (plant .standby).sequencer.saveAsked = false ∧
    ((saving bad bad).sequencer.saveAsked = true ∧ (saving bad bad).sequencer.save = none ∧
      (saving bad bad).constants.store = none) ∧
    (SaveSlot.good bad = false ∧ (goodSlot 7).good = true ∧ (goodSlot 6).number < (goodSlot 7).number ∧
      (goodSlot 7).number ≤ (goodSlot 7).number) ∧
    ({ StationLink.powerOn with tx := .busy }.tx ≠ .idle) ∧
    ((link { StationLink.powerOn with busyReply := some r }).station.tx = .idle ∧
      (link { StationLink.powerOn with busyReply := some r }).station.busyReply = some r ∧
      (link { StationLink.powerOn with busyReply := some r }).station.restartAsked = false) ∧
    ((link { StationLink.powerOn with headReply := some r }).station.busyReply = none ∧
      (link { StationLink.powerOn with headReply := some r }).station.headReply = some r) ∧
    PlantLink.powerOn.transmitList = [] ∧ due.plantLink.transmission = none ∧
    due.plantLink.transmitList = .machine .c1 :: [] ∧ due.constants.sections.port.good = true ∧
    (due.slot (.machine .c1)).order = some (.machine .stop 0) :=
  ⟨rfl, ⟨rfl, rfl, rfl⟩, ⟨cut_bad 7, goodSlot_good 7, by decide, Nat.le_refl 7⟩, by decide +kernel⟩

theorem witness_OutputsInvariant : (full.outputsOk = true ∧ ∃ t, step ⟨full, [.dispatchCycle]⟩ = .next t) ∧
    (let fs : List OutputFunction := [.none, .plantTrip, .compTrip, .expTrip, .attention, .shutdown, .bypassCooler, .reserveActive]
     let p : Ck4 := Ck4.refreshOutputs { plant .auto with lines := { (plant .auto).lines with
       outputs := fs.map fun f => ⟨f, .activeHigh, false⟩ } }
     p.outputsOk = true ∧ ∀ f ∈ fs, ∃ o ∈ p.lines.outputs, o.function = f) :=
  ⟨⟨by decide +kernel, _, rfl⟩, by decide +kernel⟩

/-- A string in LOADED on its vessel, in AUTO, under its LOAD order. -/
def bound : Ck4 :=
  let p := (using_ (plant .auto) .v0 (.discharging .e1)).setBinding .e1 ⟨some .v0, none, false, some .load, none⟩
  withMach p .e1 fun r => { r with
    state := .loaded, adopted := true, report := some .loaded, phase := ⟨some .load, 300, true⟩, setpoint := 300 }

theorem witness_BindingsInvariant : (bound.bindingsOk = true ∧ ∃ t, step ⟨bound, [.setMode 1]⟩ = .next t) ∧
    (bound.binding .e1).bound = some .v0 ∧ (bound.mach .e1).state = .loaded :=
  ⟨⟨by decide +kernel, _, rfl⟩, by decide +kernel⟩

theorem witness_ShutdownMachinesInvariant :
    let p : Ck4 := (allMachines.foldl (fun q m => withMach q m fun r => { r with adopted := true, report := some .stopped })
      (plant .shutdown))
    let q := withMach (withMach (plant .auto) .e2 fun r => { r with state := .starting, adopted := true, startTimer := some 0 }) .c2
      fun r => { r with state := .idle, adopted := true, lingerTimer := some 0 }
    let u := allMachines.foldl (fun q m => withMach q m fun r => { r with state := .tripped }) (plant .shutdown)
    (p.restOk = true ∧ p.mode = .shutdown ∧ ∃ t, step ⟨p, [.dispatchCycle]⟩ = .next t) ∧
    (q.restOk = true ∧ (q.mach .e2).startTimer.isSome = true ∧ (q.mach .c2).lingerTimer.isSome = true ∧
      (q.mach .c1).adopted = false) ∧ (u.restOk = true ∧ u.mode = .shutdown ∧ (u.mach .e1).adopted = false) :=
  ⟨⟨by decide +kernel, rfl, _, rfl⟩, by decide +kernel⟩

theorem witness_ReserveAndSetpointsInvariant :
    let p : Ck4 := { bound with dispatch := { bound.dispatch with t0Up := 100, t0Down := 50, pRes := 100 } }
    p.reserveOk = true ∧ p.bindingsOk = true ∧ p.setpointsOk = true ∧ 0 < (p.mach .e1).setpoint ∧
      ∃ t, step ⟨p, [.dispatchCycle]⟩ = .next t :=
  ⟨by decide +kernel, by decide +kernel, by decide +kernel, by decide +kernel, _, rfl⟩

theorem witness_ReadsAndUnconfiguredRequests : (alone Ck4.blank).part.mode = .unconfigured := rfl

/-- The served modes, for SettlementsVesselsFaultsAnswers, InventoryMachinesDispatchLinesAnswers and ManualTargetAndGearResults,
which ask no more. -/
theorem witness_served : ∀ m ∈ [Mode.standby, .auto, .manual, .shutdown], (alone (plant m)).served := by
  intro m h; fin_cases h <;> exact nofun

theorem witness_IdentityConstantsTimeIntervalsAnswers : (7 ≥ 7 ∧ sectionOf 6 = some .lines ∧ sectionOf 0 = some .cavern ∧
    ((plant .auto).constants.sections.get .lines).good = true ∧ (Ck4.blank.constants.sections.get .cavern).good = false) ∧
    (alone (clocked .auto 0)).served ∧ (plant .auto).time.valid = false ∧
    (clocked .auto 0).time.valid = true ∧ (clocked .auto 0).schedule.pageBase 20411 = none ∧
    (clocked .auto 0).schedule.pageBase 20414 = none ∧ 96 > 95 ∧ (clocked .auto 0).schedule.pageBase 20412 = some 0 ∧
    (clocked .auto 0).schedule.pageBase 20413 = some 96 :=
  ⟨by decide +kernel, nofun, by decide +kernel⟩

/-- A part whose trip is in progress. -/
def tripping (p : Ck4) : Ck4 := { p with protection := { p.protection with tripInProgress := true } }

theorem witness_SetModeResult : (alone (plant .shutdown)).served ∧ (0 ≠ 1 ∧ 4 ≠ 3) ∧ (plant .shutdown).mode = .shutdown ∧
    (plant .standby).mode = .standby ∧ (plant .standby).time.valid = false ∧ (clocked .standby 0).mode = .standby ∧
    (tripping (clocked .standby 0)).mode = .standby ∧ (tripping (clocked .standby 0)).time.valid = true ∧
    (tripping (clocked .standby 0)).protection.tripInProgress = true ∧ (plant .auto).mode = .auto ∧
    (plant .manual).mode = .manual ∧ (clocked .standby 0).time.valid = true ∧
    (clocked .standby 0).protection.tripInProgress = false ∧
    (withMach (plant .auto) .e1 fun r => { r with state := .loaded }).mode = .auto :=
  ⟨nofun, by decide +kernel⟩

/-- A section store in flight. -/
def storing (p : Ck4) (id : SectionId) (vs : List Int) : Ck4 :=
  { p with constants := { p.constants with store := some ⟨id, vs⟩ } }

theorem witness_LoadAndStoreConstants :
    let first := storing Ck4.blank .cavern cavernValues
    let last (id : SectionId) (vs : List Int) : Ck4 :=
      storing { plant .unconfigured with constants := { (plant .unconfigured).constants with
        sections := (plant .unconfigured).constants.sections.set id ⟨[], 0, false⟩ } } id vs
    (plant .standby).constants.store = none ∧ first.constants.store = some ⟨.cavern, cavernValues⟩ ∧
    (∀ x ∈ [(SectionId.market, marketValues), (.machines, machineValues)],
      (storing (plant .standby) x.1 x.2).constants.store = some ⟨x.1, x.2⟩ ∧ (plant .standby).mode ≠ .unconfigured ∧
      (storing Ck4.blank x.1 x.2).mode = .unconfigured ∧ (storing Ck4.blank x.1 x.2).constants.store = some ⟨x.1, x.2⟩ ∧
      Ck4.allGood { first with constants := { first.constants with
        sections := first.constants.sections.set x.1 ⟨x.2, 0, true⟩ } } = false ∧
      (last x.1 x.2).mode = .unconfigured ∧ (last x.1 x.2).setpointsOk = true ∧
      (after .constantsStoreComplete (last x.1 x.2)).mode = .standby) := by decide +kernel

/-- The values of a LINES section: one line of each of three functions, and one output. -/
def lineValues : List Int := [1, 1, 4, 0, 0, 5, 2, 0, 4] ++ List.replicate 39 0 ++ [1, 0] ++ List.replicate 14 0

theorem witness_SectionsHandedOn : (∀ x ∈ [(SectionId.cavern, cavernValues), (.energy, energyValues), (.vessels, vesselValues),
      (.lines, lineValues), (.port, portValues)],
      (storing (plant .standby) x.1 x.2).constants.store = some ⟨x.1, x.2⟩ ∧
      (storing Ck4.blank x.1 x.2).constants.store = some ⟨x.1, x.2⟩ ∧ Ck4.blank.mode = .unconfigured ∧
      Ck4.blank.setpointsOk = true ∧ Ck4.blank.bindingsOk = true) ∧
    (Ck4.blank.constants.sections.cavern.good = false ∧ Ck4.blank.constants.sections.energy.good = false) ∧
    ((plant .standby).constants.sections.cavern.good = true ∧ (plant .standby).constants.sections.energy.good = true) ∧
    (moment.inventory.temperature = some 450 ∧ moment.inventory.state ≠ .unseeded) ∧ Inventory.powerOn.temperature = none ∧
    ((plant .standby).lines.inputs.length = 16 ∧ (plant .standby).lines.outputs.length = 8) ∧
    (let p := (plant .standby).setBinding .c1 ⟨none, none, true, none, none⟩
     let q : Ck4 := { withMach p .c1 (fun r => { r with state := .loaded }) with
       allocator := { p.allocator with bypassPermitted := true } }
     q.allocator.bypassPermitted = true ∧ (q.binding .c1).bypass = true ∧ (q.mach .c1).state = .loaded) ∧
    ((plant .standby).plantLink.sources.length = 24 ∧ sectionRanges .port portValues = true) ∧
    (let p := plant .standby
     let e := { p.source 0 with state := SourceState.fresh, arrival := some 0 }
     let q : Ck4 := { p.setSource 0 e with time := { p.time with elapsed := 1500 } }
     (q.source 0 ≠ newEntry portValues 0 ∧ p.source 0 = newEntry portValues 0) ∧ (q.source 0).state = .fresh ∧
     (q.source 0).arrival = some 0 ∧ q.tStale .compressor ≤ q.time.elapsed - 0 ∧ ¬ q.tLost .compressor ≤ q.time.elapsed - 0) ∧
    (plant .standby).bindingsOk = true ∧
    (∀ i ∈ List.range 24, (plant .standby).source i = newEntry portValues i) := by decide +kernel

theorem witness_PowerOnResult : (plant .auto).constants.store = none ∧ (plant .auto).sequencer.save = none ∧
    (storing (plant .auto) .market marketValues).constants.store = some ⟨.market, marketValues⟩ ∧
    (let p : Ck4 := { plant .auto with sequencer := { (plant .auto).sequencer with save := some ⟨true, 8, none, .all .zero⟩ } }
     p.sequencer.save = some ⟨true, 8, none, .all .zero⟩) ∧
    (goodSlot 7).cut.good = false ∧ (goodSlot 7).good = true ∧ (goodSlot 8).good = true ∧
    (goodSlot 7).number < (goodSlot 8).number ∧ (goodSlot 7).number ≤ (goodSlot 7).number :=
  ⟨rfl, rfl, rfl, rfl, cut_bad 7, goodSlot_good 7, goodSlot_good 8, by decide, Nat.le_refl 7⟩

theorem witness_FirstSetTime : (alone (plant .standby)).served ∧ (plant .standby).time.valid = false ∧ 65534 ≤ 65534 ∧
    86399 ≤ 86399 ∧ 999 ≤ 999 ∧ (plant .standby).schedule.currentPage.length = 96 ∧
    (plant .standby).schedule.nextPage.length = 96 ∧ (plant .standby).gateLead ≤ 16 ∧ 94 < 86399 / 900 ∧
    (86399 / 900 < 96 ∧ 98 ≤ 86399 / 900 + (plant .standby).gateLead) ∧ 86399 / 900 + (plant .standby).gateLead < 99 :=
  ⟨nofun, by decide +kernel⟩

theorem witness_SetTimeSteps : (alone (clocked .auto 36300)).served ∧ 65535 > 65534 ∧ 86400 > 86399 ∧ 1000 > 999 ∧
    (clocked .auto 36300).time.valid = true ∧ instantOf 20412 36299 999 < (clocked .auto 36300).time.instant ∧
    (clocked .auto 36300).mode ≠ .standby ∧ (clocked .auto 36300).time.instant ≤ instantOf 20412 36899 999 ∧
    20412 ≤ (clocked .auto 36300).time.day + 1 ∧
    instantOf 20412 36899 999 / 900000 = (clocked .auto 36300).time.instant / 900000 ∧
    instantOf 20412 36300 0 = (clocked .auto 36300).time.instant ∧
    (∀ x ∈ [(20412, 36900, 1), (20412, 41400, 6), (20413, 0, 56), (20413, 86399, 151)],
      1 ≤ x.2.2 ∧ instantOf x.1 x.2.1 0 / 900000 = (clocked .auto 36300).time.instant / 900000 + x.2.2 ∧
      x.1 ≤ (clocked .auto 36300).time.day + 1) ∧
    ((clocked .auto 36300).time.second ≤ 86399 ∧ (clocked .auto 36300).time.ms ≤ 999 ∧
      (clocked .auto 36300).dispatch.number ≤ 65535 ∧ (clocked .auto 36300).schedule.currentPage.length = 96 ∧
      (clocked .auto 36300).schedule.nextPage.length = 96 ∧ (clocked .auto 36300).gateLead ≤ 16) ∧
    ((clocked .auto 36300).time.instant ≤ instantOf 20414 0 0 ∧ (clocked .auto 36300).time.day + 1 < 20414) ∧
    (instantOf 20412 36299 999 < (clocked .standby 36300).time.instant ∧ (clocked .standby 36300).mode = .standby) :=
  ⟨nofun, by decide +kernel⟩

/-- The clock on another day. -/
def onDay (p : Ck4) (d : Nat) : Ck4 := { p with time := { p.time with day := d }, schedule := { p.schedule with day := some d } }

/-- A part whose notice queue holds some notices of the kind SHORTFALL. -/
def noticed (n : Nat) : Ck4 :=
  { plant .auto with station := { StationLink.powerOn with notices := List.replicate n ⟨.shortfall, none, 0, 1⟩ } }

theorem witness_BoundaryAndEndOfRange :
    let p := clocked .standby 36899
    let q := onDay (clocked .standby 86399) 65533
    let staging (d : Nat) : Ck4 := q.setStaging (some ⟨d, emptyPage, 1⟩)
    (plant .standby).time.valid = false ∧
    (onDay (clocked .standby 86399) 65534).time.valid = true ∧ (onDay (clocked .standby 86399) 65534).time.endOfRange = false ∧
    (onDay (clocked .standby 86399) 65534).time.day = 65534 ∧ (onDay (clocked .standby 85500) 65534).time.second / 900 = 95 ∧
    ((onDay (clocked .standby 85499) 65534).time.second / 900 < 95 ∧ 85499 ≤ 86399) ∧
    (p.time.valid = true ∧ p.time.endOfRange = false ∧ p.schedule.currentPage.length = 96 ∧ p.schedule.nextPage.length = 96 ∧
      p.time.second / 900 = 40 ∧ p.station.notices.length ≤ 28) ∧
    (q.time.second / 900 = 95 ∧ (95 + 1) % 96 % 4 = 0 ∧ q.time.day < 65534 ∧ q.schedule.staging = none) ∧
    ((staging 65533).schedule.staging = some ⟨65533, emptyPage, 1⟩ ∧ (staging 65533).schedule.day = some 65533) ∧
    ((staging 65534).schedule.staging = some ⟨65534, emptyPage, 1⟩ ∧ (staging 65534).schedule.day ≠ some 65534) ∧
    ((noticed 28).station.notices.length ≤ 28 ∧ ∀ n ∈ (noticed 28).station.notices, n.kind ≠ .overflow) := by decide +kernel

/-- The seeded plant with interval 41 LOCKED. -/
def locked41 : Ck4 := { seeded with schedule := seeded.schedule.setRecord 41 ⟨0, 0, 0, true, .locked, none⟩ }

theorem witness_WriteIntervalsResult : (alone seeded).served ∧ (plant .auto).time.valid = false ∧ seeded.time.valid = true ∧
    seeded.schedule.pageBase 20411 = none ∧ seeded.schedule.pageBase 20413 = some 96 ∧
    (List.replicate 17 (firm 0)).length > 16 ∧ 81 + (List.replicate 16 (firm 0)).length > 96 ∧
    seeded.offersValid [firm 1801] = false ∧ seeded.offersValid [⟨3, 0, 0, 0, none⟩] = false ∧
    80 + (List.replicate 16 (firm 1800)).length ≤ 96 ∧ seeded.offersValid (List.replicate 16 (firm 1800)) = true ∧
    ((locked41.schedule.record 41).status.writable = false ∧
      ∀ j, 0 + 40 ≤ j → j < 41 → (locked41.schedule.record j).status.writable = true) ∧
    (∀ i, 96 + 80 ≤ i → i < 96 + 80 + 16 → (seeded.schedule.record i).status.writable = true) ∧
    firmChanges seeded.schedule (seeded.schedule.write 176 [indicative 1800]) 176 1 = false ∧
    firmChanges seeded.schedule (seeded.schedule.write 176 [firm 1800]) 176 1 = true ∧
    (seeded.admission (seeded.schedule.write 176 [firm 1800])).1 = false ∧
    firmChanges seeded.schedule (seeded.schedule.write 176 [firm 0]) 176 1 = true ∧
    (seeded.admission (seeded.schedule.write 176 [firm 0])).1 = true ∧ 1 ≠ ([] : List OfferedRecord).length ∧
    (seeded.schedule.currentPage.length = 96 ∧ seeded.schedule.nextPage.length = 96 ∧ 191 + [firm 0].length ≤ 192 ∧
      (∀ o ∈ [firm 0], o.status ≤ 2) ∧ [firm 0][191 - 191]? = some (firm 0)) :=
  ⟨nofun, by decide +kernel⟩

theorem witness_ProjectionAndAdmission : seeded.active = some 40 ∧ (plant .auto).inventory.state = .unseeded ∧
    (let sections := seeded.constants.sections.set .energy ⟨[], 0, false⟩
     let p : Ck4 := { seeded with constants := { seeded.constants with sections := sections } }
     p.inventory.state ≠ .unseeded ∧ p.constants.sections.energy.good = false) ∧
    seeded.inventory.state ≠ .unseeded ∧ seeded.constants.sections.energy.good = true ∧ 0 ≤ 191 ∧ 191 ≤ 191 ∧ (seeded.project 40 600).pass = true ∧
    (seeded.storeProjection ⟨true, 0, .none, 0, 0, 0⟩).inventory.stored.pass = true ∧
    (Ck4.project { seeded with schedule := seeded.schedule.write 176 [firm 1800] } 40 600).pass = false := by decide +kernel

/-- A staging page of day 20,412 open on the seeded plant. -/
def staged (records : List IntervalRecord) : Ck4 := seeded.setStaging (some ⟨20412, records, 1⟩)

/-- A page with one FIRM record, of interval 95. -/
def firmPage (z : Int) : List IntervalRecord := emptyPage.set 95 ⟨z, 0, 0, false, .firm, none⟩

theorem witness_StagingResults : (alone seeded).served ∧ ((plant .auto).time.valid = false ∧
    seeded.time.valid = true ∧ seeded.schedule.day ≠ some 20411 ∧ seeded.schedule.day.map (· + 1) ≠ some 20411 ∧
    (staged emptyPage).time.valid = true ∧ (staged emptyPage).schedule.staging.isSome = true ∧
    (staged emptyPage).schedule.day = some 20412 ∧ seeded.schedule.day = some 20412 ∧
    seeded.schedule.day.map (· + 1) = some 20413) ∧ seeded.schedule.staging = none ∧
    (staged emptyPage).schedule.staging = some ⟨20412, emptyPage, 1⟩ ∧
    (staged emptyPage).offersValid [firm 1801] = false ∧ 96 + [firm 0].length > 96 ∧
    ([firm 0].length ≤ 16 ∧ 95 + [firm 0].length ≤ 96 ∧ (staged emptyPage).offersValid [firm 0] = true) ∧
    (staged emptyPage).schedule.pageBase 20412 = some 0 ∧
    (emptyPage.length = 96 ∧ [firm 0][95 - 95]? = some (firm 0) ∧ ∀ o ∈ [firm 0], o.status ≤ 2) ∧
    (96 = 96 ∧ seeded.schedule.currentPage.length = 96 ∧ seeded.schedule.nextPage.length = 96) ∧
    (gateAgrees (locked41.schedule.record (0 + 41)) ((emptyPage.set 41 ⟨1, 0, 0, false, .firm, none⟩).getD 41 .blank) = false ∧
      ∀ j, j < 41 → gateAgrees (locked41.schedule.record (0 + j)) (emptyPage.getD j .blank) = true) ∧
    (∀ i, i < 96 → gateAgrees ((staged (firmPage 0)).schedule.record (0 + i)) ((firmPage 0).getD i .blank) = true) ∧
    firmChanges seeded.schedule (seeded.schedule.commitFrom 0 emptyPage 0 96) 0 96 = false ∧
    firmChanges seeded.schedule (seeded.schedule.commitFrom 0 (firmPage 1800) 0 96) 0 96 = true ∧
    ((staged (firmPage 1800)).admission ((staged (firmPage 1800)).schedule.commitFrom 0 (firmPage 1800) 0 96)).1 = false ∧
    firmChanges seeded.schedule (seeded.schedule.commitFrom 0 (firmPage 0) 0 96) 0 96 = true ∧
    ((staged (firmPage 0)).admission ((staged (firmPage 0)).schedule.commitFrom 0 (firmPage 0) 0 96)).1 = true :=
  ⟨nofun, by decide +kernel⟩

/-- The seeded plant with window 15 in use. -/
def windowed : Ck4 := { seeded with schedule := seeded.schedule.setWindow 15 ⟨true, .block, 40, 43, 15, 0⟩ }

theorem witness_WindowRequestsResult : (alone seeded).served ∧ (alone windowed).served ∧ Ck4.blank.mode = .unconfigured ∧
    ((plant .auto).time.valid = false ∧ seeded.time.valid = true ∧
    (4 > 3 ∧ 16 > 15 ∧ 192 > 191 ∧ 41 > 40) ∧ (15 ≤ 15 ∧ 191 ≤ 191 ∧ 1 ≤ 15) ∧
    (seeded.rating .e1 + seeded.rating .e2 = 1800 ∧ seeded.rating .c1 + seeded.rating .c2 + seeded.rating .c3 = 2100) ∧
    (seeded.admission (seeded.schedule.setWindow 15 ⟨true, .setpoint, 191, 191, 8, 0⟩)).1 = true ∧
    (seeded.admission (seeded.schedule.setWindow 15 ⟨true, .setpoint, 191, 191, 8, 1800⟩)).1 = false) ∧ 16 > 15 ∧
    (windowed.schedule.windows.getD 15 .free).inUse = true ∧ (windowed.schedule.windows.getD 14 .free).inUse = false ∧
    { Inventory.powerOn with stored := ⟨true, 0, .none, 0, 0, 0⟩ }.stored.pass = true ∧
    Inventory.powerOn.stored.pass = false :=
  ⟨nofun, nofun, rfl, by decide +kernel⟩

theorem witness_ResolutionFollowsWindows :
    let blocked := overlapping.setWindow 0 ⟨true, .block, 43, 43, 8, 0⟩
    let capped := overlapping.setWindow 0 ⟨true, .capCharge, 0, 191, 15, 300⟩
    (∀ s ∈ [overlapping, blocked, capped], ∀ w ∈ s.windows, w.kind = .capDischarge ∨ w.kind = .capCharge → 0 ≤ w.value) ∧
    (Mode.standby ≠ .auto ∧ Mode.standby ≠ .manual) ∧
    (blocked.windows.any fun w => w.kind == .block && w.covers 43) = true ∧
    ((overlapping.windows.any fun w => w.kind == .block && w.covers 43) = false ∧ (resolve overlapping 1200 .manual 43).power = 1000 ∧
      (resolve capped (-400) .manual 43).power = -300) ∧
    ((overlapping.windows.getD 3 .free).kind = .setpoint ∧ (overlapping.windows.getD 3 .free).covers 41 = true ∧
      (overlapping.windows.getD 5 .free).covers 41 = true ∧ (∀ k, k < 3 → (overlapping.windows.getD k .free).inUse = false) ∧
      (resolve overlapping 0 .auto 41).power = 1000) ∧
    ((overlapping.windows.any fun w => w.kind == .setpoint && w.covers 63) = false ∧ (overlapping.record 63).committed = false ∧
      (overlapping.record 63).status ≠ .firm) ∧
    ((overlapping.record 40).committed = true ∧ (overlapping.record 43).status = .firm) := by decide +kernel

theorem witness_CycleAtRest : (plant .standby).mode ≠ .auto ∧ (plant .standby).mode ≠ .manual ∧
    (plant .shutdown).mode ≠ .auto ∧ Ck4.blank.mode ≠ .manual ∧ (plant .standby).dispatch.pRes = 0 := by decide +kernel

/-- The clock of the worked page, whose interval 40 resolves to a power. -/
def dispatching : Ck4 := { clocked .auto 36300 with schedule := { overlapping with day := some 20412 } }

theorem witness_CycleRunning :
    let moving (s : Int) : Ck4 := { dispatching with dispatch := { dispatching.dispatch with s := s } }
    let dwelling (d : Dir) : Ck4 := { dispatching with dispatch := { dispatching.dispatch with dwell := some ⟨1, d⟩ } }
    let metered (m : SourceState) (hz : Option Nat) : Ck4 := { dispatching with dispatch := { dispatching.dispatch with
      meter := m, frequency := hz, frequencySinceFresh := hz.isSome } }
    dispatching.mode = .auto ∧ dispatching.time.valid = true ∧
    powerDir (dispatching.dispatchResolution 40).power = some .discharge ∧
    (powerDir (moving 5).dispatch.s = some .discharge ∧ powerDir (moving (-5)).dispatch.s = some .charge) ∧
    (dispatching.dispatch.s = 0 ∧ ((dwelling .discharge).dispatch.dwell.map (·.blocked)) = some .discharge) ∧
    (after .dispatchCycle (dwelling .discharge)).dispatch.s = 0 ∧
    (dispatching.dispatch.meter = .lost ∧ (metered .stale none).dispatch.meter = .stale ∧
      ((metered .fresh none).dispatch.meter = .fresh ∧ (metered .fresh none).dispatch.frequencySinceFresh = false) ∧
      (metered .fresh (some 49900)).dispatch.frequencySinceFresh = true ∧
      (after .dispatchCycle (metered .fresh (some 49900))).dispatch.pRes > 0) ∧
    powerDir (after .dispatchCycle dispatching).dispatch.s = some .discharge ∧ dispatching.marginReached .discharge = true ∧
    (clocked .manual 36300).mode = .manual ∧ (after .dispatchCycle (clocked .manual 36300)).dispatch.s = 0 := by decide +kernel

/-- A vessel with heat to give; held or not. -/
def hot (p : Ck4) (v : VesselId) (held : Bool) (usable : Nat) : Ck4 :=
  p.setVessel v { p.vessel v with
    reported := true, source := .fresh, layers := List.replicate 12 5000, valid := List.replicate 12 true, invalidCount := 0
    content := .full, stored := 2 * usable, usable := usable, held := held }

/-- The same clock over a seeded inventory, with the string E1 in LOADED and E2 as given. -/
def serving (other : MachineRecord → MachineRecord) : Ck4 :=
  let p := hot (withMach bound .e1 fun r => { r with source := .fresh, demand := .serve }) .v3 false 900
  withMach { p with
    time := dispatching.time, schedule := dispatching.schedule, inventory := seeded.inventory
    dispatch := { p.dispatch with s := 500 } } .e2 other

theorem witness_CycleCommitsAndSplits :
    let p := serving id
    let t := after .dispatchCycle p
    let q := (using_ (serving fun r => { r with state := .loading, adopted := true, demand := .serve, loadPending := true })
      .v4 (.discharging .e2)).setBinding .e2 ⟨some .v4, none, false, some .load, none⟩
    let k := withMach { hot (plant .auto) .v3 false 900 with
      time := dispatching.time, schedule := dispatching.schedule, inventory := seeded.inventory } .e1 fun r => { r with source := .fresh }
    let i := withMach (withMach { hot (plant .auto) .v3 false 900 with
      time := dispatching.time, schedule := dispatching.schedule, inventory := seeded.inventory } .e1 fun r =>
        { r with state := .idle, demand := .serve, adopted := true, source := .fresh }) .c1 fun r => { r with source := .lost }
    (∀ x ∈ [p, q, k, i], x.mode = .auto ∧ x.bindingsOk = true ∧ x.setpointsOk = true) ∧
    powerDir t.dispatch.s = some .discharge ∧ t.dispatch.f ≠ 0 ∧ (t.mach .e1).state = .loaded ∧
    (∀ m ∈ allMachines, 0 < t.rating m ∧ t.minPower m ≤ t.rating m) ∧
    ((q.mach .e2).state = .loading ∧ (q.mach .e2).loadPending = true) ∧
    ((k.mach .e1).state = .stopped ∧ ((after .dispatchCycle k).mach .e1).state = .starting) ∧
    ((i.mach .e1).state = .idle ∧ ((after .dispatchCycle i).mach .e1).state = .loading) ∧
    (let u := after .dispatchCycle { p with schedule := Schedule.powerOn, dispatch := DispatchUnit.powerOn }
     (u.mach .e1).state = .unloading ∧ (u.mach .e1).last.cause = .shed) := by decide +kernel

/-- R125, R126 where two strings are LOADED with demand SERVE, of 1,000 and 800 kW and 550 kW of minimum power: E2, of equal EOH and the
higher index, is shed where 1,800 less its rating is just 800 and the margin 200, and not at margin 201; and where F is 540, and not
at 550. -/
theorem witness_CycleCommitsAndSplits_shed :
    let both (margin : Int) (z : Int) : Ck4 :=
      let p := serving fun r => { r with
        state := .loaded, adopted := true, demand := .serve, phase := ⟨some .load, 250, true⟩, setpoint := 250, source := .fresh }
      let p := (using_ p .v1 (.discharging .e2)).setBinding .e2 ⟨some .v1, none, false, some .load, none⟩
      { p with
        schedule := { Schedule.powerOn with
          day := some 20412, currentPage := emptyPage.set 40 ⟨z, 0, 0, true, .active, none⟩ }
        dispatch := { p.dispatch with s := z }
        constants := { p.constants with
          sections := p.constants.sections.set .machines ⟨machineValues.set 20 margin, 0, true⟩ } }
    let cases := [both 200 800, both 201 800, both 600 540, both 600 550]
    (∀ p ∈ cases, p.mode = .auto ∧ p.bindingsOk = true ∧ p.setpointsOk = true ∧
      powerDir (after .dispatchCycle p).dispatch.s = some .discharge ∧ (after .dispatchCycle p).dispatch.f ≠ 0) ∧
    cases.map (fun p => (((after .dispatchCycle p).mach .e1).state, ((after .dispatchCycle p).mach .e2).state)) =
      [(.loaded, .unloading), (.loaded, .loaded), (.loaded, .unloading), (.loaded, .loaded)] := by decide +kernel

theorem witness_ReserveAndShares : let p := plant .auto
    ((((50010 : Nat) : Int) - p.fNominal).natAbs ≤ p.deadband ∧ p.deadband < p.fFull ∧ 49800 + p.fFull ≤ p.fNominal ∧
      p.fNominal + p.fFull ≤ 50200 ∧ 49989 < p.fNominal ∧ p.deadband < ((49989 : Int) - p.fNominal).natAbs ∧
      p.fNominal < 50011 ∧ p.deadband < ((50011 : Int) - p.fNominal).natAbs) ∧
    [MachineId.e1, .e2].Sublist (machinesOf .discharge) ∧
    (∀ m ∈ [MachineId.e1, .e2], 0 < p.rating m ∧ p.minPower m ≤ p.rating m) ∧
    sumNat ([MachineId.e1, .e2].map p.minPower) = 550 ∧ sumNat ([MachineId.e1, .e2].map p.rating) = 1800 := by decide +kernel

theorem witness_DwellCounterAndSaveResults : (plant .auto).sequencer.save = none ∧
    { (plant .auto).sequencer with save := some ⟨true, 0, none, .all .zero⟩ }.save = some ⟨true, 0, none, .all .zero⟩ ∧
    (let others (p : Ck4) : Prop := ∃ k ∈ allMachines, k ≠ .e1 ∧ machineDir k = .discharge ∧ inService (p.mach k).state = true
     let beside := withMach bound .e2 fun r => { r with state := .unloading }
     let waiting (d : Dir) : Ck4 := { plant .auto with dispatch := { (plant .auto).dispatch with dwell := some ⟨1, d⟩ } }
     let blocked (p : Ck4) : Option Dir := p.dispatch.dwell.map (·.blocked)
     (inService (bound.mach .e1).state = true ∧ inService .stopping = false ∧ ¬ others bound ∧ bound.dispatchDwell ≠ 0 ∧
       (bound.transition .e1 .stopping .none).dispatch.dwell = some ⟨1000 * bound.dispatchDwell, .charge⟩) ∧
     (others beside ∧ inService (beside.mach .e1).state = true) ∧
     (inService ((waiting .charge).mach .e1).state = false ∧ inService .loading = true ∧ blocked (waiting .charge) = some .charge ∧
       ((waiting .charge).transition .e1 .loading .none).dispatch.dwell = none) ∧
     (blocked (waiting .discharge) ≠ some .charge ∧
       ((waiting .discharge).transition .e1 .loading .none).dispatch.dwell = some ⟨1, .discharge⟩) ∧
     inService (bound.mach .e1).state = inService .unloading) := by
  decide +kernel

theorem witness_MassFollowsTotalisersAndPressure :
    let p : Ck4 := { seeded with inventory := { seeded.inventory with baseline := .all (some 4294967295), drift := 2 } }
    seeded.inventory.baseline.get .c1 = none ∧ p.inventory.baseline.get .c1 = some 4294967295 ∧
    (100001 - 1 + 4294967296 - 4294967295) % 4294967296 > p.maxStep ∧
    (100000 - 1 + 4294967296 - 4294967295) % 4294967296 ≤ p.maxStep ∧
    ((6474 : Int) - p.inventory.pEst).natAbs ≤ p.tol ∧ ((6575 : Int) - p.inventory.pEst).natAbs > p.tol ∧
    seeded.inventory.drift + 1 < seeded.nDrift ∧ p.nDrift ≤ p.inventory.drift + 1 ∧
    (p.protection.enables.cavern = true ∧ p.protection.table.length < 16 ∧ full.protection.table.length = 16) := by decide +kernel

theorem witness_HoldFreezeBypassResults : (alone full).served ∧ (alone (plant .auto)).served ∧
    (8 > 7 ∧ 7 ≤ 7 ∧ 7 = full.allocator.hold ∧ 0 ≠ full.allocator.hold) ∧ 2 > 1 ∧ 1 ≤ 1 ∧
    (plant .auto).allocator.freeze = decide (0 = 1) ∧ (plant .auto).allocator.freeze ≠ decide (1 = 1) :=
  ⟨nofun, nofun, by decide +kernel⟩

theorem witness_IsolateAndRestoreResults :
    let p := using_ (using_ (using_ (plant .auto) .v1 .isolated) .v7 (.charging .c1)) .v2 (.switchingOut .e1)
    let q := withMach p .c1 fun r => { r with state := .tripped }
    p.mode ≠ .unconfigured ∧ 8 > 7 ∧ (p.vessel .v0).use = .free ∧ (p.vessel .v1).use = .isolated ∧
    (p.vessel .v7).use = .charging .c1 ∧ (p.mach .c1).state ≠ .tripped ∧ (q.vessel .v7).use = .charging .c1 ∧
    (q.mach .c1).state = .tripped ∧ (p.vessel .v2).use = .switchingOut .e1 ∧ (p.vessel .v2).use.engaged = true ∧
    (p.vessel .v1).use.engaged = false ∧ (p.vessel .v0).use.engaged = false := by decide +kernel

/-- Machine E1 switching from V0 to V1, its timer run out. -/
def switching : Ck4 :=
  (using_ (using_ (plant .auto) .v0 (.discharging .e1)) .v1 (.switchingIn .e1)).setBinding .e1 ⟨some .v0, some .v1, false, some .empty, some 0⟩

theorem witness_SwitchTimeoutResult : (switching.binding .c1).timer = none ∧ (switching.binding .e1).timer.isSome = true ∧
    (switching.binding .e1).target = some .v1 ∧
    (let p := switching.setBinding .c1 ⟨none, none, false, none, some 0⟩
     (p.binding .c1).timer.isSome = true ∧ (p.binding .c1).target = none) := by decide +kernel

theorem witness_VesselAndMachineChoices :
    (let z : Tree := ⟨false, false, false, false, false, false, false⟩
    let p := hot (hot (plant .auto) .v3 false 900) .v5 false 900
    let q : Ck4 := { hot (plant .auto) .v0 true 900 with allocator := { (hot (plant .auto) .v0 true 900).allocator with reserve := 1 } }
    treeWalk z (fun v => v == .v7) = some .v7 ∧ treeWalk z (fun _ => false) = none ∧
    treeWalk ⟨true, true, true, false, false, false, true⟩ (fun v => v == .v0 || v == .v6 || v == .v7) = some .v7 ∧
    treeWalk ⟨true, true, false, true, false, false, false⟩ (fun v => v == .v0 || v == .v5 || v == .v7) = some .v5 ∧
    (plant .auto).chooseDischarge = none ∧ p.chooseDischarge = some .v3 ∧
    (p.eligibleDischarge .v5 = true ∧ (p.vessel .v5).usable = (p.vessel .v3).usable) ∧
    q.eligibleDischarge .v0 = true ∧ (q.vessel .v0).held = true) ∧
    (let fresh (s : MachineState) : MachineRecord := { MachineRecord.powerOn .zero with state := s, source := .fresh }
    let p := ((plant .auto).setMach .c1 (fresh .stopped)).setMach .c2 (fresh .stopped)
    let q := (p.setMach .c3 (fresh .idle)).setMach .c2 (fresh .idle)
    let r := (p.setMach .e1 (fresh .loaded)).setMach .e2 (fresh .loaded)
    (p.oneMore .charge).1 = some .c1 ∧ (q.oneMore .charge).1 = some .c2 ∧ ((plant .auto).oneMore .charge).1 = none ∧
    r.shedCandidate .discharge = some .e2 ∧ p.shedCandidate .charge = none) := by decide +kernel

/-- A string in LOADED on a held vessel, and a train in LOADED in bypass, with a vessel that could take each of them over. -/
def relieved : Ck4 :=
  let p := hot (hot (plant .auto) .v0 true 900) .v3 false 900
  let p := (using_ p .v0 (.discharging .e1)).setBinding .e1 ⟨some .v0, none, false, some .load, none⟩
  withMach p .e1 fun r => { r with
    state := .loaded, adopted := true, report := some .loaded, phase := ⟨some .load, 300, true⟩, setpoint := 300 }

/-- A train in LOADED in bypass, and an empty vessel to charge. -/
def bypassing : Ck4 :=
  let p := (plant .auto).setVessel .v2 { (plant .auto).vessel .v2 with
    reported := true, source := .fresh, content := .partly, room := 1, layers := List.replicate 12 100
    valid := List.replicate 12 true, invalidCount := 0 }
  let p := p.setBinding .c1 ⟨none, none, true, some .load, none⟩
  withMach p .c1 fun r => { r with
    state := .loaded, adopted := true, report := some .loaded, phase := ⟨some .load, 300, true⟩, setpoint := 300 }

/-- The string E1 in LOADED switching from vessel V0 to V1, as the allocator left it. -/
def inFlight : Ck4 := relieved.allocate .e1 .v1 .empty

theorem witness_BindingOperations :
    let permitted : Ck4 := { plant .auto with allocator := { (plant .auto).allocator with bypassPermitted := true } }
    let loading := withMach ((using_ (plant .auto) .v4 (.switchingIn .c2)).setBinding .c2 ⟨none, some .v4, false, some .load, some 1⟩)
      .c2 fun r => { r with state := .loading }
    ((plant .auto).binding .c1).bound ≠ some .v1 ∧ (relieved.binding .e1).bound ≠ some .v1 ∧
    relieved.choose .discharge = some .v3 ∧ bypassing.choose .charge = some .v2 ∧
    ((plant .auto).choose .charge = none ∧ permitted.choose .charge = none ∧ permitted.allocator.bypassPermitted = true ∧
      (permitted.binding .c1).bound = none ∧ (permitted.binding .c1).bypass = false) ∧
    (plant .auto).choose .discharge = none ∧ ((plant .auto).mach .c1).state ≠ .loaded ∧
    ((relieved.mach .e1).state = .loaded ∧ (relieved.binding .e1).target = none) ∧
    ((bound.mach .e1).state = .loaded ∧ (bound.binding .e1).target = none ∧ bound.choose .discharge = none) ∧
    (let p := withMach permitted .c1 fun r => { r with state := .loaded }
     (p.mach .c1).state = .loaded ∧ (p.binding .c1).target = none ∧ p.choose .charge = none) ∧
    (relieved.chooseDischarge = some .v3 ∧ (relieved.vessel .v0).use = .discharging .e1 ∧ (relieved.vessel .v0).held = true ∧
      (relieved.binding .e1).bound = some .v0) ∧
    (let p : Ck4 := { relieved with allocator := { relieved.allocator with reserve := 1 } }
     0 < p.allocator.reserve ∧ relieved.unheldEligible = true) ∧
    ((bypassing.mach .c1).state = .loaded ∧ (bypassing.binding .c1).bypass = true ∧ (bypassing.binding .c1).target = none ∧
      bypassing.chooseCharge = some .v2) ∧
    (inFlight.bindingsOk = true ∧ (inFlight.mach .e1).state = .loaded ∧ (inFlight.binding .e1).target = some .v1 ∧
      (inFlight.binding .e1).bound = some .v0) ∧
    (loading.bindingsOk = true ∧ (loading.mach .c2).state = .loading ∧ (loading.binding .c2).target = some .v4) ∧
    (bound.bindingsOk = true ∧ (bound.binding .e1).bound = some .v0) := by decide +kernel

/-- Both strings in LOADED on held vessels, and two unheld vessels to discharge, V5 the hotter. -/
def strained : Ck4 :=
  let on (p : Ck4) (m : MachineId) (v : VesselId) : Ck4 :=
    withMach ((using_ (hot p v true 900) v (.discharging m)).setBinding m ⟨some v, none, false, some .load, none⟩) m fun r => { r with
      state := .loaded, adopted := true, report := some .loaded, phase := ⟨some .load, 300, true⟩, setpoint := 300 }
  hot (hot (on (on (plant .auto) .e1 .v0) .e2 .v1) .v4 false 800) .v5 false 900

/-- The state `p` under freeze. -/
def frozen (p : Ck4) : Ck4 := { p with allocator := { p.allocator with freeze := true } }

/-- The clauses of R73 on vessels that become eligible: none, at reserve deployment 1, one, and two at reserve deployment 0. -/
theorem witness_BindingOperations_eligible :
    let fresh (before p : Ck4) : List VesselId := allVessels.filter fun v => !before.eligibleDischarge v && p.eligibleDischarge v
    let one : Ck4 := strained.setVessel .v4 { strained.vessel .v4 with reported := false }
    fresh strained strained = [] ∧ fresh (frozen one) one = [.v5] ∧ fresh (frozen strained) strained = [.v4, .v5] ∧
    (let p : Ck4 := { strained with allocator := { strained.allocator with reserve := 1 } }
     0 < p.allocator.reserve ∧ ∀ m ∈ trains ++ strings, (p.binding m).bypass = false) ∧
    strained.allocator.reserve = 0 ∧ (∀ m ∈ trains ++ strings, (strained.binding m).bypass = false) ∧
    (∀ m ∈ strings, (strained.mach m).state = .loaded ∧ (strained.binding m).target = none) ∧
    (strained.vessel .v0).use = .discharging .e1 ∧ (strained.vessel .v0).held = true ∧
    (strained.vessel .v1).use = .discharging .e2 ∧ (strained.vessel .v1).held = true := by decide +kernel

/-- R64, R73: at SetFreeze(off) V4 and V5 become eligible together: the trigger of V4 gives E1 the hotter V5, and the trigger of V5,
which is then taken, finds V4 for E2. -/
theorem test_releases_both_strings :
    let q := after (.setFreeze 0) (frozen strained)
    (q.binding .e1).target = some .v5 ∧ (q.binding .e1).cause = some .release ∧
    (q.binding .e2).target = some .v4 ∧ (q.binding .e2).cause = some .release := by decide +kernel

/-- The clauses of R74 steps 3 and 4: another vessel; and with none, each cause, with and without what decides under it. -/
theorem witness_SwitchTimeoutResult_causes :
    let permitted (p : Ck4) : Ck4 := { p with allocator := { p.allocator with bypassPermitted := true } }
    let first (p : Ck4) (m : MachineId) (d : Demand) : Ck4 :=
      withMach ((using_ p .v4 (.switchingIn m)).setBinding m ⟨none, some .v4, false, some .load, some 1⟩) m
        fun r => { r with state := .loading, demand := d }
    let swinging (p : Ck4) (m : MachineId) (out : Option VesselId) (c : SwitchCause) : Ck4 :=
      let p := (out.elim p fun v => using_ p v (.switchingOut m)).setBinding m ⟨out, some .v4, out.isNone, some c, some 1⟩
      withMach (using_ p .v4 (.switchingIn m)) m fun r => { r with state := .loaded, phase := ⟨some .load, 300, true⟩, setpoint := 300 }
    let none_ (p : Ck4) (m : MachineId) : Prop := p.bindingsOk = true ∧ (p.binding m).target = some .v4 ∧
      (p.setVessel .v4 { p.vessel .v4 with use := .free, condition := .degraded, usable := 0, room := 0 }).choose (machineDir m) = none
    let room := seeded
    (inFlight.bindingsOk = true ∧ (inFlight.binding .e1).target = some .v1 ∧ (inFlight.vessel .v1).use = .switchingIn .e1 ∧
      (Ck4.setVessel inFlight .v1 { inFlight.vessel .v1 with use := .free, condition := .degraded, usable := 0, room := 0 }).choose
        .discharge = some .v3) ∧
    (none_ (first (permitted room) .c1 .serve) .c1 ∧ room.minPower .c1 + room.othersOrdered .c1 ≤ room.rateLimit .charge) ∧
    (none_ (first (permitted (plant .auto)) .c1 .serve) .c1 ∧
      (plant .auto).rateLimit .charge < (plant .auto).minPower .c1 + (plant .auto).othersOrdered .c1) ∧
    (∀ d ∈ [Demand.serve, .none], none_ (first (plant .auto) .c1 d) .c1 ∧ none_ (first (permitted room) .e1 d) .e1) ∧
    none_ (swinging (plant .auto) .e1 (some .v0) .release) .e1 ∧ none_ (swinging (permitted (plant .auto)) .c1 none .bypassExit) .c1 ∧
    none_ (swinging (permitted (plant .auto)) .c1 (some .v0) .full) .c1 ∧ none_ (swinging (plant .auto) .c1 (some .v0) .degraded) .c1 ∧
    none_ (swinging (permitted (plant .auto)) .e1 (some .v0) .empty) .e1 := by decide +kernel

/-- C1 in each state, with what decides how R96 takes it up; a transmission in progress; a string in LOADED with a target in flight;
and a train in bypass. -/
theorem witness_RestartResults :
    let in_ (mode : Mode) (s : MachineState) (f : MachineRecord → MachineRecord) : Ck4 :=
      withMach (plant mode) .c1 fun r => f { r with state := s }
    let permitted (p : Ck4) : Bool := p.allocator.bypassRequested && p.coolerAllows
    let sent (p : Ck4) : Ck4 := { p with plantLink := { p.plantLink with transmission := some ⟨.machine .c1, [], true, false⟩ } }
    let placed (p : Ck4) : MachineRecord := { p.mach .c1 with phase := ⟨some .load, 300, false⟩ }
    (∀ s ∈ [MachineState.stopped, .starting, .idle, .loading, .loaded, .unloading, .stopping, .tripped, .lockedOut],
      ((in_ .auto s id).mach .c1).state = s ∧ ((in_ .auto s id).mach .c1).startFailed = false ∧
      ((in_ .auto s id).mach .c1).phase.kind ≠ some .load ∧ ((in_ .auto s id).binding .c1).bypass = false) ∧
    ((in_ .auto .starting fun r => { r with startFailed := true }).mach .c1).startFailed = true ∧
    (placed (in_ .auto .loading id)).phase.kind = some .load ∧
    ((in_ .shutdown .idle id).mode = .shutdown ∧ (in_ .auto .idle id).mode ≠ .shutdown ∧ (in_ .auto .idle id).mode ≠ .unconfigured) ∧
    ((sent (plant .auto)).plantLink.transmission.isSome = true ∧ (plant .auto).plantLink.transmission = none) ∧
    (permitted inFlight = inFlight.allocator.bypassPermitted ∧ (∀ m ∈ allMachines, (inFlight.mach m).state ≠ .loading) ∧
      (inFlight.binding .e1).target = some .v1 ∧ ∀ m ∈ allMachines, (inFlight.binding m).target ≠ some .v0) ∧
    ((bypassing.binding .c1).bypass = true ∧ bypassing.allocator.bypassPermitted = false) ∧
    (after .warmRestart inFlight).station.notices = [⟨.machineState, none, 3, 65536 * 4 + 256 * 5 + 13⟩] := by decide +kernel

theorem witness_ReleaseAndMachineTimers :
    let p := withMach (plant .auto) .c1 fun r => { r with state := .lockedOut, report := some .stopped }
    let q := withMach (plant .auto) .c1 fun r => { r with state := .lockedOut, report := some .tripped }
    let t := withMach (withMach (plant .auto) .e2 fun r => { r with state := .starting, startTimer := some 0 }) .c2
      fun r => { r with state := .idle, lingerTimer := some 0 }
    p.mode ≠ .unconfigured ∧ 5 > 4 ∧ (p.mach .e2).state ≠ .lockedOut ∧ (q.mach .c1).state = .lockedOut ∧
    (q.mach .c1).report ≠ some .stopped ∧ (p.mach .c1).state = .lockedOut ∧ p.activeOrUnknown (.trip .c1) = false ∧
    p.activeOrUnknown .estop = false ∧ (p.mach .c1).report = some .stopped ∧ (t.mach .c1).startTimer = none ∧
    (t.mach .e2).startTimer.isSome = true ∧ (t.mach .e2).state = .starting ∧ t.protection.enables.machC = true ∧
    t.protection.enables.machE = true ∧ (t.mach .e2).lingerTimer = none ∧ (t.mach .c2).lingerTimer.isSome = true ∧
    (t.mach .c2).state = .idle := by decide +kernel

/-- A part in SHUTDOWN. -/
def shut : Ck4 := { plant .shutdown with protection := { Protection.powerOn with shutdown := true, tripInProgress := true } }

/-- An emergency-stop line, active low, at a qualified level, whose check time is one sample. -/
def estopAt (p : Ck4) (level : Level) : Ck4 :=
  p.setInput 15 ⟨.estop, .activeLow, 0, some level, level, level, some 0, some level⟩

theorem witness_AckAndClearShutdownResults :
    let running := withMach (tripping (plant .auto)) .c1 fun r => { r with state := .unloading }
    let tripped := withMach (tripping (plant .auto)) .c1 fun r => { r with state := .tripped, stoppedSinceTrip := true }
    let held := withMach shut .e2 fun r => { r with state := .tripped }
    let out := withMach shut .e2 fun r => { r with state := .lockedOut }
    running.protection.tripInProgress = true ∧
    ((running.mach .c1).state ≠ .stopped ∧ (running.mach .c1).state ≠ .tripped ∧ (running.mach .c1).state ≠ .lockedOut) ∧
    (plant .auto).protection.tripInProgress = false ∧ tripped.protection.tripInProgress = true ∧ tripped.allAtRest = true ∧
    (tripped.mach .c1).state = .tripped ∧ (plant .auto).protection.shutdown = false ∧ shut.protection.shutdown = true ∧
    (estopAt shut .low).activeOrUnknown .estop = true ∧ (estopAt shut .high).activeOrUnknown .estop = false ∧
    held.activeOrUnknown .estop = false ∧ ((held.mach .e2).state ≠ .stopped ∧ (held.mach .e2).state ≠ .lockedOut) ∧
    out.protection.shutdown = true ∧ out.activeOrUnknown .estop = false ∧ out.allReleased = true := by decide +kernel

theorem witness_ClearFaultsAndGroupEnable :
    let r (n : Nat) : FaultRecord := ⟨n, none, ⟨.port, .lost, 0, 0, .warn, true⟩⟩
    let p : Ck4 := { plant .standby with protection := { Protection.powerOn with table := [r 65534, r 65535, r 0, r 65535] } }
    p.mode ≠ .unconfigured ∧ (∀ x ∈ p.protection.table, x.sequence ≠ 1) ∧
    (p.protection.table = [r 65534] ++ r 65535 :: [r 0, r 65535] ∧ (r 65535).sequence = 65535 ∧
      ∀ x ∈ [r 65534], x.sequence ≠ 65535) ∧
    6 > 5 ∧ (plant .auto).mode ≠ .standby ∧ p.mode = .standby ∧ 1 ≤ 1 := by decide +kernel

theorem witness_EmergencyStopTrips : ∀ p ∈ [estopAt (plant .auto) .high, estopAt shut .high, estopAt (tripping (plant .auto)) .high],
    p.lines.inputs.length = 16 ∧ (p.input 15).function = .estop ∧ (p.input 15).qualified.isSome = true ∧
    (p.input 15).qualified ≠ some .low ∧ levelActive (p.input 15).polarity .low = true ∧
    p.protection.enables.lines = true ∧ p.protection.enables.get .port = true ∧
    p.protection.table.length < 16 ∧ full.protection.table.length = 16 ∧
    { p.protection with enables := { p.protection.enables with port := false } }.enables.get .port = false := by decide +kernel

theorem witness_NoticesAndAttention : (alone full).served ∧ ((0 = 0 ∧ 9 > 8) ∧ 1 ≤ 8 ∧ 2 > 1 ∧ 1 ≤ 1) ∧
    (noticed 0).station.notices = [] ∧
    full.station.notices = List.replicate 31 ⟨.shortfall, none, 0, 1⟩ ++ [⟨.overflow, none, 2, 1⟩] ∧
    (noticed 30).station.notices = List.replicate 29 ⟨.shortfall, none, 0, 1⟩ ++ [⟨.shortfall, none, 0, 1⟩] ∧
    (noticed 30).station.notices.length ≤ 30 ∧ (noticed 31).station.notices.length = 31 :=
  ⟨nofun, by decide +kernel⟩

/-- A part whose request queue holds some frames, with the head's reply and a BUSY reply or without. -/
def queued (n : Nat) (head busy : Bool) (tx : StationTx) : Ck4 :=
  let r : Reply := ⟨0x81#8, 0, ⟨.ok, .none⟩⟩
  { plant .auto with station := { StationLink.powerOn with
      queue := List.replicate n ⟨1#8, 0#8, []⟩, headReply := if head then some r else none
      busyReply := if busy then some r else none, tx := tx } }

theorem witness_StationFramesAndReplies : (List.replicate 480 0#8).length ≤ 480 ∧ (0x40#8).toNat ≥ 0x40 ∧
    ((0x3F#8).toNat ≠ 0 ∧ (0x3F#8).toNat < 0x40) ∧
    ((queued 3 true false .reply).station.queue.length < 4 ∧ (queued 3 true false .reply).station.headReply.isSome = true) ∧
    ((queued 0 false false .idle).station.queue = [] ∧ (queued 0 false false .idle).station.headReply = none ∧
      (queued 0 false false .idle).station.restartAsked = false) ∧
    ((queued 4 true false .reply).station.queue.length ≥ 4 ∧ (queued 4 true false .reply).station.busyReply = none) ∧
    (queued 4 true true .reply).station.busyReply.isSome = true ∧ (queued 0 false false .idle).station.tx ≠ .reply ∧
    ((queued 1 true false .reply).station.tx = .reply ∧ (queued 1 true false .reply).station.queue.length ≤ 1) ∧
    (queued 2 true false .reply).station.queue = ⟨1#8, 0#8, []⟩ :: ⟨1#8, 0#8, []⟩ :: [] ∧
    (let p : Ck4 := { plant .auto with station := { (queued 2 true false .reply).station with restartAsked := true } }
     p.station.tx = .reply ∧ p.station.restartAsked = true) ∧
    (queued 1 true true .busy).station.tx = .busy := by decide +kernel

theorem witness_FrameRequests : (alone (plant .standby)).served ∧ 2 > 1 ∧
    (([] : List Byte).length = 0 ∧ [9#8].length ≠ 0) ∧
    (1 ≤ [0#8].length ∧ (List.replicate 41 0#8).length = 1 + 4 * [10, 4, 21, 13, 4, 84, 64].getD 0 0) ∧
    ((List.replicate 16 1#8).length = 4 + 12 * 1 ∧ (List.replicate 14 1#8).length = 2 + 12 * 1) ∧
    (0x07#8 ∉ [0x06#8, 0x08#8] ∧ 0x3F#8 ∉ [0x3A#8, 0x3B#8]) :=
  ⟨nofun, by decide +kernel⟩

theorem witness_ReplyBytes :
    let r : IntervalRecord := { IntervalRecord.blank with power := -32768, up := 65535, reference := some 4294967295 }
    let w : Window := ⟨true, .setpoint, 191, 191, 15, -32768⟩
    let f : FaultRecord := ⟨65535, some ⟨65534, 86399, 999⟩, ⟨.lines, .estop, 15, -2147483648, .plant, false⟩⟩
    let x : Settlement := ⟨65535, 65534, 95, true, -32768, -2147483648, 2147483647, 0, some 1, none, false⟩
    (-32768 ≤ r.power ∧ r.power ≤ 32767 ∧ r.up ≤ 65535 ∧ r.reference = some 4294967295) ∧ IntervalRecord.blank.reference = none ∧
    (w.inUse = true ∧ 15 ≤ 255 ∧ w.mask ≤ 255 ∧ w.first ≤ 255 ∧ w.last ≤ 255 ∧ -32768 ≤ w.value) ∧ Window.free.inUse = false ∧
    (f.sequence ≤ 65535 ∧ f.time = some ⟨65534, 86399, 999⟩ ∧ -2147483648 ≤ f.fault.info) ∧
    (x.number ≤ 65535 ∧ x.metered = some 1 ∧ x.deviation = none) ∧
    (faultBytes true f).length = 17 ∧ (settlementBytes x).length = 28 := by decide +kernel

/-- R199, 12.3: metered net export and deviation at the two ends of their fields. -/
theorem test_settlement_energies :
    (settlementBytes ⟨1, 2, 3, true, 5, 0, 0, 0, some (-2147483648), some 2147483647, false⟩).drop 20 =
      [0x00, 0x00, 0x00, 0x80, 0xFF, 0xFF, 0xFF, 0x7F] := by decide +kernel

/-- The bytes of a frame from its length to its CRC. -/
def received (kind : Byte) (payload : List Byte) : List Byte := (frameBytes kind 0#8 payload).drop 2

/-- A part whose station receiver stands in a phase, its last byte 10 ms ago. -/
def receiving (phase : ReceiverPhase) (held : Option (List Byte)) : Ck4 :=
  { plant .auto with
    time := { TimeBase.powerOn with elapsed := 10 }
    station := { StationLink.powerOn with phase := phase, inProgress := held, lastByte := some 0 } }

theorem witness_StationReceiverPhases :
    (receiving .hunt none).station.phase = .hunt ∧ 0xD2#8 ≠ 0xD3#8 ∧ (receiving .syncSeen none).gapExceeded = false ∧
    (receiving .syncSeen none).station.phase = .syncSeen ∧
    (∀ held ∈ [[], [0#8], [0xE0#8], [0xE1#8], [0#8, 0#8, 1#8, 7#8, 0#8], (received 1#8 []).dropLast],
      (receiving .inFrame (some held)).gapExceeded = false ∧ (receiving .inFrame (some held)).station.phase = .inFrame ∧
      (receiving .inFrame (some held)).station.inProgress = some held) ∧
    field ([0xE1#8] ++ [1#8]) 0 2 > 480 ∧
    (field ([0xE0#8] ++ [1#8]) 0 2 ≤ 480 ∧ [0xE0#8].length + 1 < field ([0xE0#8] ++ [1#8]) 0 2 + 6) ∧
    ([0#8, 0#8, 1#8, 7#8, 0#8].length + 1 ≥ field ([0#8, 0#8, 1#8, 7#8, 0#8] ++ [0#8]) 0 2 + 6 ∧
      frameGood ([0#8, 0#8, 1#8, 7#8, 0#8] ++ [0#8]) = false) ∧
    (let held := (received 1#8 []).dropLast
     let b := (received 1#8 []).getD 5 0
     held.length ≥ 1 ∧ field (held ++ [b]) 0 2 ≤ 480 ∧ frameGood (held ++ [b]) = true) ∧
    (let p : Ck4 := { receiving .inFrame (some []) with time := { TimeBase.powerOn with elapsed := 11 } }
     p.station.phase ≠ .hunt ∧ p.station.lastByte = some 0 ∧ 0 + 10 < p.time.elapsed) := by decide +kernel

theorem witness_InputSampleResult :
    let at_ (code : Nat) (prev : Level) (last : Option Nat) : Ck4 :=
      (plant .auto).setInput 15 ⟨.none, .activeHigh, code, some .low, prev, prev, last, some .low⟩
    let later (p : Ck4) : Ck4 := { p with time := { p.time with elapsed := 64 } }
    ((at_ 7 .high none).time.elapsed % 64 = 0 ∧ ((at_ 7 .high none).input 15).sampledAt ≠ some 0) ∧
    (¬ ((at_ 7 .high (some 0)).input 15).sampledAt ≠ some (at_ 7 .high (some 0)).time.elapsed) ∧
    ((at_ 1 .high none).input 15).checkCode ≠ 0 ∧ ((at_ 1 .high none).input 15).sampledAt = none ∧
    ((later (at_ 7 .low (some 0))).input 15).previous ≠ .high ∧ ((at_ 0 .low none).input 15).qualified = some .low ∧
    ((at_ 0 .low none).input 15).function = .none ∧ (at_ 0 .low none).lines.inputs.length = 16 ∧
    ((at_ 0 .low none).input 15).checkCode = 0 ∧
    ((later (at_ 7 .high (some 0))).time.elapsed % 64 = 0 ∧ ((later (at_ 7 .high (some 0))).input 15).sampledAt.isSome = true ∧
      ((later (at_ 7 .high (some 0))).input 15).previous = .high) ∧
    ((at_ 7 .high none).input 15).pin = some .low ∧
    (let p : Ck4 := { plant .auto with
       sequencer := { (plant .auto).sequencer with counterTimer := 1 }
       dispatch := { (plant .auto).dispatch with cycleTimer := 1 } }
     let q := p.setInput 15 ⟨.none, .activeHigh, 7, some .low, .low, .low, some 0, some .low⟩
     q.due.isNone = true ∧ (q.input 15).pin.isSome = true) := by decide +kernel

theorem witness_LineFunctionResults :
    let at_ (p : Ck4) (f : InputFunction) (q : Option Level) : Ck4 := p.setInput 15 ⟨f, .activeHigh, 0, q, .low, .low, some 0, q⟩
    (∀ f ∈ [InputFunction.none, .gridLoss, .trip .e2, .breaker .c1, .cavernHigh, .cavernLow, .coolerReady],
      (at_ (plant .auto) f (some .low)).lines.inputs.length = 16 ∧ ((at_ (plant .auto) f (some .low)).input 15).function = f ∧
      ((at_ (plant .auto) f (some .low)).input 15).qualified.isSome = true ∧
      ((at_ (plant .auto) f (some .low)).input 15).qualified ≠ some .high ∧
      levelActive ((at_ (plant .auto) f (some .low)).input 15).polarity .high = true ∧
      levelActive ((at_ (plant .auto) f (some .high)).input 15).polarity .low = false) ∧
    (plant .auto).protection.enables.lines = true ∧ ((at_ (plant .auto) .gridLoss none).input 15).qualified = none ∧
    ((at_ bound (.breaker .e1) (some .high)).mach .e1).state = .loaded ∧ ((plant .auto).mach .c1).state ≠ .loaded ∧
    (tripping (plant .auto)).protection.tripInProgress = true ∧ (tripping (plant .auto)).protection.shutdown = false ∧
    (plant .auto).protection.tripInProgress = false := by decide +kernel

/-- A part whose receive queue holds some frames. -/
def heard (fs : List PlantFrame) : Ck4 := { plant .auto with plantLink := { (plant .auto).plantLink with queue := fs } }

theorem witness_PlantFramesAndCrc :
    let open_ : Ck4 := { plant .auto with
      time := { TimeBase.powerOn with elapsed := 11 }
      plantLink := { (plant .auto).plantLink with phase := .inFrame, inProgress := some [0#8], lastByte := some 0 } }
    (List.replicate 480 0#8).length ≤ 480 ∧ (plant .auto).plantLink.phase = .hunt ∧
    (heard (List.replicate 15 ⟨0#8, []⟩)).plantLink.queue.length < 16 ∧
    (heard (List.replicate 16 ⟨0#8, []⟩)).plantLink.queue.length ≥ 16 ∧ 6 < [1#8].length + 6 ∧ 0x1C#8 ≠ 0xD3#8 ∧
    (let bytes := (received 0x52#8 [1#8]).set 4 2#8
     bytes.length = field bytes 0 2 + 6 ∧ field bytes 0 2 ≤ 480 ∧ frameGood bytes = false) ∧
    ([0xE1#8, 1#8].length = 2 ∧ field [0xE1#8, 1#8] 0 2 > 480) ∧
    (open_.plantLink.phase ≠ .hunt ∧ open_.plantLink.lastByte = some 0 ∧ 0 + 10 < open_.time.elapsed ∧
      open_.plantLink.inProgress.isSome = true) := by decide +kernel

/-- A grid-meter record of address 61. -/
def gridPayload : List Byte := [61#8, 9#8, 1#8] ++ bytesOf 4 50000 ++ bytesOf 4 100 ++ bytesOf 4 200

/-- A cavern record of address 60: 6524 kPa, 45.0 degrees. -/
def cavernPayload : List Byte := [60#8, 9#8, 3#8] ++ bytesOf 2 6524 ++ signedBytes 2 450

theorem witness_RecordTakenResult :
    let c := heard [⟨0x52#8, cavernPayload⟩]
    let p := heard [⟨0x53#8, gridPayload⟩]
    let q := p.setSource 14 { p.source 14 with state := .fresh }
    let r := p.setSource 14 { p.source 14 with state := .fresh, lastSequence := some 9#8 }
    (plant .auto).plantLink.queue = [] ∧ (heard [⟨0x54#8, gridPayload⟩]).sourceOf ⟨0x54#8, gridPayload⟩ = none ∧
    p.plantLink.queue = ⟨0x53#8, gridPayload⟩ :: [] ∧
    (Ck4.sourceOf { r with plantLink := { r.plantLink with queue := [] } } ⟨0x53#8, gridPayload⟩ = some 14 ∧
      (r.source 14).lastSequence = some (gridPayload.getD 1 0)) ∧
    (Ck4.sourceOf { q with plantLink := { q.plantLink with queue := [] } } ⟨0x53#8, gridPayload⟩ = some 14 ∧
      14 < q.plantLink.sources.length ∧ (q.source 14).lastSequence ≠ some (gridPayload.getD 1 0) ∧
      (q.source 14).state = .fresh ∧ (q.source 14).kind = .gridMeter ∧ (field gridPayload 2 1).testBit 0 = true) ∧
    ((p.source 14).state ≠ .fresh ∧ (p.source 14).lastSequence = none) ∧
    (Ck4.sourceOf { c with plantLink := { c.plantLink with queue := [] } } ⟨0x52#8, cavernPayload⟩ = some 13 ∧
      13 < c.plantLink.sources.length ∧ (c.source 13).lastSequence ≠ some (cavernPayload.getD 1 0) ∧
      (c.source 13).kind = .cavern ∧ (c.source 13).state ≠ .fresh) ∧
    ((plant .auto).inventory.state = .unseeded ∧ (plant .auto).inventory.temperature = none ∧
      (plant .auto).constants.sections.cavern.good = true ∧ -400 ≤ (450 : Int) ∧ (450 : Int) ≤ 1200 ∧
      (plant .auto).inventory.dischargeMargin = true ∧ (plant .auto).inventory.chargeMargin = true) ∧
    (let i : Inventory := { seeded.inventory with state := .frozen, resume := .tracking }
     i.state = .frozen ∧ i.resume ≠ .unseeded ∧ i.temperature = some 450) ∧
    (let q := seeded.cavernRecord 13 (some 4700) (some 450)
     let r := Ck4.refreshDerived { seeded with inventory := { seeded.inventory with m := 28300000, dischargeMargin := false } }
     q.inventory.state ≠ .unseeded ∧ r.inventory.dischargeMargin = true) := by
  decide +kernel

/-- A record of machine E1, address 4: an echo, a report, 500 kW. -/
def machinePayload (echo report : Nat) : List Byte :=
  [4#8, 9#8] ++ bytesOf 1 echo ++ bytesOf 1 report ++ [1#8] ++ signedBytes 2 500 ++ bytesOf 4 7 ++ signedBytes 2 4000

theorem witness_MachineRecordTaken :
    let f : PlantFrame := ⟨0x50#8, machinePayload 1 3⟩
    let p := heard [f]
    let q := p.setSource 3 { p.source 3 with state := .fresh }
    let o := (plant .auto).place (.machine .e1) (.machine .load 300)
    let k := o.setSlot (.machine .e1) { o.slot (.machine .e1) with status := .confirmed }
    q.plantLink.queue = f :: [] ∧ Ck4.sourceOf { q with plantLink := { q.plantLink with queue := [] } } f = some 3 ∧
    3 < q.plantLink.sources.length ∧ (q.source 3).machine = some .e1 ∧ (q.source 3).state = .fresh ∧
    (Ck4.sourceOf { p with plantLink := { p.plantLink with queue := [] } } f = some 3 ∧ (p.source 3).state = .lost) ∧
    (q.source 3).lastSequence ≠ some (f.payload.getD 1 0) ∧ reportOf (field f.payload 3 1) = some .loaded ∧
    ((plant .auto).slot (.machine .e1)).status = .empty ∧
    ((k.slot (.machine .e1)).status = .confirmed ∧ (k.slot (.machine .e1)).sequence = some 1) ∧
    ((o.slot (.machine .e1)).status ≠ .empty ∧ (o.slot (.machine .e1)).status ≠ .confirmed ∧
      (o.slot (.machine .e1)).sequence = some 1) ∧
    (bound.mach .e1).adopted = true ∧ ((plant .auto).mach .e1).adopted = false ∧
    ((Ck4.handMargins (plant .auto) ((plant .auto).takeTotaliser .e1 7)).mach .e1).state = .stopped ∧
    (let t := withMach (plant .auto) .e1 fun r => { r with state := .tripped }
     (t.mach .e1).adopted = false ∧ ((Ck4.handMargins t (t.takeTotaliser .e1 7)).mach .e1).state ≠ .stopped) := by decide +kernel

theorem witness_ReportsJudged :
    let at_ (s : MachineState) (f : MachineRecord → MachineRecord) : Ck4 :=
      withMach (plant .auto) .e1 fun r => f { r with state := s, adopted := true }
    let ordered (k : OrderKind) (n : Nat) (c : Bool) (r : MachineRecord) : MachineRecord :=
      { r with phase := ⟨some k, n, false⟩, setpoint := n, correcting := c }
    let shown := at_ .stopped id
    let loading := at_ .loading (ordered .load 300 false)
    (MachineState.stopped, Report.stopping) ∈ [(MachineState.stopped, Report.stopped), (.stopped, .stopping)] ∧
    (shown.mach .e1).correcting = false ∧
    (((at_ .stopped (ordered .stop 0 true)).mach .e1).correcting = true ∧
      ((at_ .stopped (ordered .stop 0 true)).mach .e1).phase.kind = some .stop) ∧
    ((at_ .stopped (ordered .trip 0 true)).mach .e1).phase.kind ≠ some .stop ∧
    ((loading.mach .e1).state = .loading ∧ (loading.mach .e1).phase.kind = some .load ∧ (loading.binding .e1).bound = none ∧
      loading.assignedInactive (.breaker .e1) = false) ∧
    (let bound_ (p : Ck4) : Ck4 := (using_ (withMach p .e1 fun r => ordered .load 300 false { r with state := .loading, adopted := true })
       .v0 (.discharging .e1)).setBinding .e1 ⟨some .v0, none, false, some .load, none⟩
     let emptied (p : Ck4) : Ck4 := p.setVessel .v0 { p.vessel .v0 with content := .empty }
     let none_ := bound_ (plant .auto)
     let other := bound_ (hot (plant .auto) .v3 false 900)
     let broken := none_.setInput 0 ⟨.breaker .e1, .activeHigh, 0, some .low, .low, .low, some 0, some .low⟩
     (∀ p ∈ [none_, other, emptied other, broken], (p.mach .e1).state = .loading ∧ (p.mach .e1).phase.kind = some .load ∧
       (p.binding .e1).bound = some .v0 ∧ p.bindingsOk = true) ∧
     none_.assignedInactive (.breaker .e1) = false ∧ broken.assignedInactive (.breaker .e1) = true ∧
     ((emptied other).vessel .v0).content = .empty ∧ (emptied other).choose .discharge = some .v3 ∧
     (emptied none_).choose .discharge = none) ∧
    ((at_ .loaded id).mach .e1).state = .loaded ∧ ((at_ .unloading id).mach .e1).state = .unloading ∧
    (((at_ .starting id).mach .e1).state = .starting ∧ ((at_ .starting id).mach .e1).startFailed = false) ∧
    ((at_ .stopping id).mach .e1).state = .stopping ∧ ((at_ .tripped id).mach .e1).state = .tripped ∧
    ((loading.mach .e1).controllerTripHanded = false ∧ loading.protection.enables.get (machineGroup .e1) = true ∧
      (loading.mach .e1).state ≠ .tripped ∧ (loading.mach .e1).state ≠ .lockedOut) ∧
    ((at_ .loaded fun r => { r with controllerTripHanded := true }).mach .e1).controllerTripHanded = true ∧
    shown.dirInService (otherDir (machineDir .e1)) = false ∧
    (withMach shown .c1 fun r => { r with state := .unloading }).dirInService (otherDir (machineDir .e1)) = true := by
  decide +kernel

/-- A record of vessel V1, address 41: an echo, a route, twelve layers. -/
def vesselPayload (echo route machine : Nat) (layers : List Int) : List Byte :=
  [41#8, 9#8] ++ bytesOf 1 echo ++ bytesOf 1 route ++ bytesOf 1 machine ++ bytesOf 2 4095 ++ layers.flatMap (signedBytes 2)

theorem witness_VesselRecordTaken :
    let f : PlantFrame := ⟨0x51#8, vesselPayload 1 2 3 (List.replicate 12 5000)⟩
    let p := heard [f]
    let q := p.setSource 6 { p.source 6 with state := .fresh }
    let first := withMach ((using_ (plant .auto) .v1 (.switchingIn .e1)).setBinding .e1 ⟨none, some .v1, false, some .load, some 1⟩)
      .e1 fun r => { r with state := .loading }
    q.plantLink.queue = f :: [] ∧ Ck4.sourceOf { q with plantLink := { q.plantLink with queue := [] } } f = some 6 ∧
    6 < q.plantLink.sources.length ∧ (q.source 6).kind = .vessel ∧ vesselOf (q.source 6).unit = some .v1 ∧
    ((q.source 6).state = .fresh ∧ (p.source 6).state = .lost) ∧
    (first.bindingsOk = true ∧ first.setpointsOk = true ∧ inFlight.bindingsOk = true ∧ relieved.bindingsOk = true ∧ bound.bindingsOk = true) ∧
    (q.source 6).lastSequence ≠ some (f.payload.getD 1 0) ∧
    reportedRoute (field f.payload 3 1) (field f.payload 4 1) = some (.discharge .e1) ∧
    ((List.replicate 12 (0 : Int)).length = 12 ∧ (List.replicate 12 true).length = 12 ∧ 11 < 12) ∧
    (plant .auto).constants.sections.vessels.good = true ∧
    ((first.vessel .v1).use = .switchingIn .e1 ∧ (first.binding .e1).target = some .v1 ∧ (first.binding .e1).bound ≠ some .v1 ∧
      (first.mach .e1).state = .loading ∧ (first.vessel .v1).held = false ∧ first.tReheatMin ≤ 5000 ∧ 3999 < first.tReheatMin) ∧
    first.minPower .e1 + first.othersOrdered .e1 > first.rateLimit .discharge ∧
    (seeded.minPower .e1 + seeded.othersOrdered .e1 ≤ seeded.rateLimit .discharge) ∧
    ((inFlight.vessel .v1).use = .switchingIn .e1 ∧ (inFlight.binding .e1).target = some .v1 ∧
      (inFlight.binding .e1).bound ≠ some .v1 ∧ (inFlight.mach .e1).state = .loaded ∧ (inFlight.vessel .v1).held = false ∧
      (inFlight.vessel .v1).condition = .normal ∧ (inFlight.binding .e1).bound = some .v0) ∧
    ((relieved.vessel .v0).use = boundUse .e1 ∧ (relieved.binding .e1).bound = some .v0 ∧ (relieved.mach .e1).state = .loaded ∧
      (relieved.binding .e1).target = none ∧ relieved.choose (machineDir .e1) = some .v3 ∧ (relieved.vessel .v0).content = .full) ∧
    (bound.choose (machineDir .e1) = none ∧ (bound.vessel .v0).use = boundUse .e1) := by decide +kernel

theorem witness_SourceAgeResults :
    let p := plant .auto
    let q := (p.setSource 14 { p.source 14 with state := .fresh }).setSource 0 { p.source 0 with state := .stale }
    q.plantLink.sources.length = 24 ∧ (q.source 23).kind = .unused ∧ (q.source 1).state ≠ .fresh ∧
    (q.source 14).kind ≠ .unused ∧ (q.source 14).state = .fresh ∧ q.tStale .gridMeter ≠ q.tLost .gridMeter ∧
    (q.station.notices.length ≤ 16 ∧ ∀ n ∈ q.station.notices, n.kind ≠ .overflow) ∧
    ((q.source 0).machine = some .c1 ∧ (q.source 5).kind = .vessel ∧ (q.source 5).unit = vesselIndex .v0 ∧
      (q.source 13).kind = .cavern) ∧
    (q.protection.enables.port = true ∧ (q.mach .c1).state ≠ .lockedOut ∧ (q.mach .c1).state ≠ .tripped) ∧
    (((withMach q .c1 fun r => { r with state := .tripped }).mach .c1).state = .tripped ∧
      ((withMach q .c1 fun r => { r with state := .lockedOut }).mach .c1).state = .lockedOut) ∧
    (let d := q.setVessel .v0 { q.vessel .v0 with condition := .degraded }
     (d.vessel .v0).condition = .degraded ∧ (q.vessel .v0).condition = .normal ∧ (q.vessel .v0).use = .free) ∧
    (inFlight.bindingsOk = true ∧ (inFlight.vessel .v1).use = .switchingIn .e1 ∧ (inFlight.vessel .v1).condition = .normal ∧
      (inFlight.vessel .v0).use = .switchingOut .e1) ∧
    (relieved.bindingsOk = true ∧ (relieved.vessel .v0).use = boundUse .e1 ∧ (relieved.mach .e1).state = .loaded ∧
      relieved.choose (machineDir .e1) = some .v3 ∧ (relieved.vessel .v0).condition = .normal) ∧
    (bound.choose (machineDir .e1) = none ∧ (bound.vessel .v0).condition = .normal ∧ machineDir .e1 = .discharge) ∧
    (q.source 1).state = .lost ∧ (q.source 0).kind ≠ .unused ∧ (q.source 0).state = .stale := by decide +kernel

theorem witness_OrderSlotResults :
    let ran (p : Ck4) (d : Dest) : Ck4 := p.setSlot d { p.slot d with
      order := some (.machine .stop 0), sequence := some 1, lastGiven := 1, status := .sent, confirmTimer := some 0
      repeatTimer := some 0, transmissions := 65535 }
    let sending (released : Bool) : Ck4 := { ran (plant .auto) (.machine .c1) with plantLink :=
      { (ran (plant .auto) (.machine .c1)).plantLink with transmission := some ⟨.machine .c1, [], true, released⟩ } }
    let p := ran (ran (plant .auto) (.machine .c1)) (.vessel .v7)
    let q := p.setSource 0 { p.source 0 with state := .fresh }
    (plant .auto).plantLink.transmission = none ∧ (sending true).plantLink.transmission = some ⟨.machine .c1, [], true, true⟩ ∧
    (sending false).plantLink.transmission = some ⟨.machine .c1, [], true, false⟩ ∧
    ((plant .auto).slot (.vessel .v0)).repeatTimer = none ∧ (p.slot (.vessel .v7)).repeatTimer.isSome = true ∧
    ((plant .auto).slot (.vessel .v0)).confirmTimer = none ∧ (p.slot (.vessel .v7)).confirmTimer.isSome = true ∧
    (p.source (p.sourceIndexOf (.vessel .v7))).state = .lost ∧ (q.slot (.machine .c1)).confirmTimer.isSome = true ∧
    (q.source (q.sourceIndexOf (.machine .c1))).state ≠ .lost ∧ q.protection.enables.port = true ∧
    (∀ o ∈ [Route.none, .charge .c1, .discharge .e1],
      let p := (plant .auto).setSlot (.vessel .v0) { (plant .auto).slot (.vessel .v0) with
        order := some (.route o), status := .sent, confirmTimer := some 0 }
      let u := p.setSource 5 { p.source 5 with state := .fresh }
      (u.slot (.vessel .v0)).order = some (.route o) ∧ (u.slot (.vessel .v0)).confirmTimer.isSome = true ∧
      (u.source (u.sourceIndexOf (.vessel .v0))).state ≠ .lost) ∧
    ((bound.mach .e1).state = .loaded ∧ ((plant .auto).mach .e1).state ≠ .loaded) ∧
    (let off : Ck4 := { q with protection := { q.protection with enables := { q.protection.enables with port := false } } }
     off.protection.enables.port = false ∧ (off.slot (.machine .c1)).confirmTimer.isSome = true) := by decide +kernel

/-! ### Witnesses of the clauses that follow a fact on, at the boundaries of their ranges -/

/-- R163: a sample that confirms a level on a line of a function has the effect of its qualified change: TRIP_C2 trips C2. -/
theorem witness_InputSampleResult_function :
    let at_ (code : Nat) (prev : Level) (last : Option Nat) : Ck4 :=
      (plant .auto).setInput 15 ⟨.trip .c2, .activeHigh, code, some .low, prev, prev, last, some .low⟩
    let p : Ck4 := { at_ 7 .high (some 0) with time := { TimeBase.powerOn with elapsed := 64 } }
    ((at_ 0 .low none).time.elapsed % 1 = 0 ∧ ((at_ 0 .low none).input 15).sampledAt ≠ some 0 ∧ ((at_ 0 .low none).input 15).checkCode = 0) ∧
    (p.time.elapsed % 64 = 0 ∧ (p.input 15).sampledAt = some 0 ∧ (p.input 15).previous = .high) ∧
    (∀ q ∈ [at_ 0 .low none, p], ((after (.inputSample 15 .high) q).mach .c2).state = .tripped) := by decide +kernel

/-- R176, R198: the frames of each kind at the bounds of their codes, and just past them. -/
theorem witness_RecordTakenResult_sources :
    let machine (report : Nat) : List Byte := machinePayload 0 report
    let vessel (route machine mask : Nat) : List Byte :=
      [41#8, 9#8, 0#8] ++ bytesOf 1 route ++ bytesOf 1 machine ++ bytesOf 2 mask ++ List.replicate 24 0#8
    let of_ (kind : Byte) (payload : List Byte) : Option Nat := (plant .auto).sourceOf ⟨kind, payload⟩
    [of_ 0x50#8 (machine 6), of_ 0x51#8 (vessel 2 4 4095), of_ 0x51#8 (vessel 0 255 0), of_ 0x52#8 cavernPayload,
      of_ 0x53#8 gridPayload] = [some 3, some 6, some 6, some 13, some 14] ∧
    (∀ x ∈ [of_ 0x50#8 (machine 7), of_ 0x51#8 (machine 6), of_ 0x51#8 (vessel 3 4 0), of_ 0x51#8 (vessel 1 5 0),
      of_ 0x51#8 (vessel 0 255 4096), of_ 0x52#8 (cavernPayload ++ [0#8]), of_ 0x53#8 [61#8], of_ 0x53#8 [],
      of_ 0x53#8 (gridPayload.set 0 0#8)], x = none) ∧
    (maskFlags 2049 = [true, false, false, false, false, false, false, false, false, false, false, true]) ∧
    ((layersOf (vesselPayload 0 0 255 [-2730, 32767, -32768, 5, 0, 0, 0, 0, 0, 0, 0, -1])).take 4 = [-2730, 32767, -32768, 5]) := by
  decide +kernel

/-- R31, R34: a seed at the bounds of the range of temperatures, and with a record whose temperature is outside it. -/
theorem witness_RecordTakenResult_seed :
    let p (t : Int) : Ck4 := { plant .auto with inventory := { Inventory.powerOn with temperature := some t } }
    (p 450).inventory.state = .unseeded ∧ (p 450).inventory.temperature = some 450 ∧ (p 450).constants.sections.cavern.good = true ∧
    (p 450).inventory.dischargeMargin = true ∧ (p 450).inventory.chargeMargin = true ∧ (p 450).protection.enables.cavern = true ∧
    ([some (-401), some (-400), some 1200, some 1201, none].map fun t =>
      ((p 450).cavernRecord 13 (some 6524) t).station.notices.map (·.kind)) =
      [[.faultRecorded, .inventoryReseeded], [.inventoryReseeded], [.inventoryReseeded], [.faultRecorded, .inventoryReseeded],
       [.inventoryReseeded]] := by decide +kernel

/-- R198: order frames at the bounds of their fields. -/
theorem witness_EndOfStepFrame_orders : 255 ≤ 255 ∧
    (orderBytes 255 255 (.machine .load 65535)).take 11 =
      [0xD3#8, 0x1C#8, 5#8, 0#8, 0x60#8, 0#8, 255#8, 255#8, 1#8, 255#8, 255#8] ∧
    (orderBytes 0 0 (.machine .trip 65535)).take 11 = [0xD3#8, 0x1C#8, 5#8, 0#8, 0x60#8, 0#8, 0#8, 0#8, 4#8, 0#8, 0#8] ∧
    (orderBytes 41 7 (.route (.discharge .e2))).take 10 = [0xD3#8, 0x1C#8, 4#8, 0#8, 0x61#8, 0#8, 41#8, 7#8, 2#8, 4#8] ∧
    (orderBytes 41 8 (.route .none)).take 10 = [0xD3#8, 0x1C#8, 4#8, 0#8, 0x61#8, 0#8, 41#8, 8#8, 0#8, 255#8] := by decide +kernel

/-- R193: each section's values at bounds of their ranges, and just past them. -/
theorem witness_LoadAndStoreConstants_ranges :
    (∀ x ∈ [(SectionId.cavern, 0, 10000), (.cavern, 2, 7700), (.cavern, 3, 5100), (.cavern, 9, 10000000), (.energy, 3, 5000),
        (.machines, 1, 900), (.machines, 2, 1800), (.machines, 20, 32767), (.vessels, 8, -2730), (.vessels, 9, 5600), (.vessels, 10, 501),
        (.vessels, 12, 600), (.market, 0, 16), (.market, 1, 60000), (.market, 3, 11), (.port, 0, 254), (.port, 72, 5000),
        (.port, 77, 1500), (.port, 83, 30), (.lines, 3, 15), (.lines, 2, 7), (.lines, 48, 7)],
      let base := match x.1 with
        | .cavern => cavernValues | .energy => energyValues | .machines => machineValues | .vessels => vesselValues
        | .market => marketValues | .port => portValues | .lines => lineValues ++ []
      sectionRanges x.1 (base.set x.2.1 x.2.2) = true) ∧
    (∀ x ∈ [(SectionId.cavern, 0, 9999), (.cavern, 2, 7701), (.cavern, 3, 5099), (.cavern, 9, 10000001), (.energy, 3, 5001),
        (.machines, 1, 901), (.machines, 2, 59), (.machines, 20, 32768), (.vessels, 8, -2731), (.vessels, 9, 500), (.vessels, 10, 500),
        (.vessels, 12, 601), (.market, 0, 17), (.market, 1, 50001), (.market, 3, 10), (.port, 0, 2), (.port, 1, 2), (.port, 72, 99),
        (.port, 77, 1499), (.port, 45, 1), (.port, 83, 31), (.lines, 3, 1), (.lines, 3, 16), (.lines, 2, 8), (.lines, 48, 8)],
      let base := match x.1 with
        | .cavern => cavernValues | .energy => energyValues | .machines => machineValues | .vessels => vesselValues
        | .market => marketValues | .port => portValues | .lines => lineValues ++ []
      sectionRanges x.1 (base.set x.2.1 x.2.2) = false) ∧
    (loadLengthGood 6 (List.replicate 64 0) = true ∧ loadLengthGood 6 [] = false ∧ loadLengthGood 7 [] = true) := by decide +kernel

/-- R65, R91: three trains in bypass when the permission is withdrawn, C1 in LOADED, C2 in LOADING with its first LOAD placed and C3
in LOADING with it pending: where C3 goes on to depends on its demand, the vessels and the linger time. -/
theorem witness_HoldFreezeBypassResults_withdrawn :
    let load (r : MachineRecord) : MachineRecord := { r with phase := ⟨some .load, 300, true⟩, setpoint := 300 }
    let by_ (p : Ck4) (m : MachineId) (f : MachineRecord → MachineRecord) : Ck4 :=
      (withMach p m fun r => f { r with adopted := true }).setBinding m ⟨none, none, true, none, none⟩
    let p (base : Ck4) (d : Demand) : Ck4 :=
      let q := by_ (by_ (by_ base .c1 fun r => load { r with state := .loaded }) .c2 fun r => load { r with state := .loading }) .c3
        fun r => { r with state := .loading, loadPending := true, demand := d }
      { q with
        allocator := { q.allocator with bypassPermitted := true }
        inventory := { q.inventory with chargeMargin := false }, dispatch := { q.dispatch with permitCharge := true } }
    let room : Ck4 := (plant .auto).setVessel .v2 { (plant .auto).vessel .v2 with reported := true, content := .partly }
    let short : Ck4 := { plant .auto with constants := { (plant .auto).constants with
      sections := (plant .auto).constants.sections.set .machines ⟨machineValues.set 17 0, 0, true⟩ } }
    let cases := [p (plant .auto) .none, p (plant .auto) .serve, p room .serve, p short .none]
    (∀ q ∈ cases, (q.allocator.bypassRequested && q.coolerAllows) = false ∧ q.allocator.bypassPermitted = true ∧ q.bindingsOk = true) ∧
    cases.map (fun q => trains.map fun m => (q.recomputeBypass.mach m).state) =
      [[.unloading, .unloading, .idle], [.unloading, .unloading, .idle], [.unloading, .unloading, .loading],
       [.unloading, .unloading, .stopping]] ∧
    (∀ q ∈ cases, trains.all fun m => !(q.recomputeBypass.binding m).bypass) ∧
    (let granted : Ck4 := { plant .auto with allocator := { (plant .auto).allocator with bypassRequested := true } }
     (granted.allocator.bypassRequested && granted.coolerAllows) = true ∧ granted.allocator.bypassPermitted = false) ∧
    ((plant .auto).time.valid = false ∧ seeded.time.valid = true ∧ seeded.allocator.freeze = decide (1 = 0)) := by decide +kernel

/-- R84, R124: S is 500 and the up band 100: with 800 of E2 counted no machine is asked for; with none, E1 in IDLE is recalled before
the start of E2, which only a band of 600 asks for; and of two in STOPPED the one of lower EOH starts. -/
theorem witness_CycleCommitsAndSplits_asked :
    let p (up : Nat) (f g : MachineRecord → MachineRecord) : Ck4 :=
      let q := withMach (withMach (hot (plant .auto) .v3 false 900) .e1 fun r => f { r with adopted := true, source := .fresh }) .e2
        fun r => g { r with adopted := true, source := .fresh }
      { q with
        time := dispatching.time, inventory := seeded.inventory, dispatch := { q.dispatch with s := 500 }
        schedule := { Schedule.powerOn with
          day := some 20412, currentPage := emptyPage.set 40 ⟨500, up, 0, true, .active, none⟩ } }
    let idle (r : MachineRecord) : MachineRecord := { r with state := .idle, lingerTimer := some 5 }
    let older (r : MachineRecord) : MachineRecord := { r with counters := { r.counters with starts := 1 } }
    let cases := [p 100 idle (fun r => { r with state := .starting, demand := .serve, startTimer := some 1 }), p 100 idle id, p 500 idle id,
      p 600 idle id, p 100 older id]
    (∀ q ∈ cases, q.mode = .auto ∧ q.bindingsOk = true ∧ q.setpointsOk = true ∧
      powerDir (after .dispatchCycle q).dispatch.s = some .discharge ∧ q.marginReached .discharge = false) ∧
    cases.map (fun q => strings.map fun m => (((after .dispatchCycle q).mach m).demand, ((after .dispatchCycle q).mach m).state)) =
      [[(.none, .idle), (.serve, .starting)], [(.serve, .loading), (.none, .stopped)], [(.serve, .loading), (.none, .stopped)],
       [(.serve, .loading), (.serve, .starting)], [(.none, .stopped), (.serve, .starting)]] := by decide +kernel

/-- R158, R160: a step across the rollover with a staging page of the day that ends, of the next, and of none, and gate leads 1 to 16;
and a clearing step with staging open. -/
theorem witness_SetTimeSteps_rollover :
    let p : Ck4 := clocked .auto 86399
    let staged_ (d : Nat) : Ck4 := { p with schedule := { p.schedule with staging := some ⟨d, emptyPage, 5⟩ } }
    let leads (n : Int) : Ck4 := { p with constants := { p.constants with
      sections := p.constants.sections.set .market ⟨marketValues.set 0 n, 0, true⟩ } }
    (alone p).served ∧ p.time.valid = true ∧ instantOf 20413 0 0 / 900000 = p.time.instant / 900000 + 1 ∧ 96 ≤ 86399 / 900 + 1 ∧
    (1 ≤ (leads 1).gateLead ∧ (leads 16).gateLead ≤ 16) ∧ p.schedule.staging = none ∧
    ((staged_ 20412).schedule.day = some 20412 ∧ (staged_ 20413).schedule.day ≠ some 20413) ∧
    ([p, staged_ 20412, staged_ 20413].map fun q => ((after (.setTime 20413 0 0) q).station.notices.map (·.kind))) =
      [[.timeStepped, .intervalSettled], [.timeStepped, .intervalSettled, .stagingDiscarded], [.timeStepped, .intervalSettled]] ∧
    ((after (.setTime 20414 0 0) (staged_ 20413)).station.notices.map (·.kind)) = [.stagingDiscarded, .timeStepped] :=
  ⟨nofun, by decide +kernel⟩

/-- R95: what STANDBY makes of a machine in each state. -/
theorem witness_SetModeResult_machines :
    let at_ (s : MachineState) (k : Option OrderKind) : Ck4 :=
      withMach (plant .auto) .e1 fun r => { r with state := s, phase := ⟨k, 0, false⟩, demand := .serve }
    let cases := [at_ .loaded (some .load), at_ .loading (some .load), at_ .loading none, at_ .idle none, at_ .starting (some .start),
      at_ .unloading (some .unload), at_ .tripped (some .trip)]
    (∀ p ∈ cases, p.mode = .auto) ∧
    cases.map (fun p => ((after (.setMode 1) p).mach .e1).state) =
      [.unloading, .unloading, .stopping, .stopping, .starting, .unloading, .tripped] := by decide +kernel

/-- 12.3: a notice's value is signed: TIME_STEPPED of a backward step. -/
theorem witness_ReplyBytes_negative :
    ([-2147483648, -1, 2147483647].map fun z => signedField (noticeBytes ⟨.timeStepped, none, 3, z⟩) 10 4) =
      [-2147483648, -1, 2147483647] := by decide +kernel

/-- R174, R177, R178: each kind of source FRESH with its address changed by a PORT store, with an age of t_lost and of t_stale. -/
theorem witness_SectionsHandedOn_sources :
    let p (i arrival : Nat) : Ck4 :=
      let q := { seeded with time := { seeded.time with elapsed := 6000 } }
      Ck4.setSource q i { q.source i with state := .fresh, arrival := some arrival, lastSequence := some 7#8 }
    let store (i : Nat) (a : Int) (arrival : Nat) : Ck4 := after .constantsStoreComplete (storing (p i arrival) .port (portValues.set (3 * i) a))
    (∀ i ∈ [0, 5, 13, 14], (p i 0).plantLink.sources.length = 24 ∧ ((p i 0).source i).kind ≠ .unused ∧
      sectionRanges .port (portValues.set (3 * i) 254) = true ∧ ((p i 0).source i).address ≠ (newEntry (portValues.set (3 * i) 254) i).address ∧
      ((p i 0).source i).address = (newEntry portValues i).address ∧ ((p i 0).source i).arrival = some 0 ∧
      (p i 0).tLost ((p i 0).source i).kind ≤ (p i 0).time.elapsed - 0 ∧
      (p i 4500).tStale ((p i 4500).source i).kind ≤ (p i 4500).time.elapsed - 4500 ∧
      ((p i 4501).time.elapsed - 4501 < (p i 4501).tStale ((p i 4501).source i).kind) ∧
      ∀ k ∈ List.range 24, k ≠ i → ((p i 0).source k).kind ≠ ((p i 0).source i).kind ∨ ((p i 0).source k).unit ≠ ((p i 0).source i).unit) ∧
    ((p 0 0).source 0).machine = some .c1 ∧ vesselOf ((p 5 0).source 5).unit = some .v0 ∧
    ([store 0 254 6000, store 0 1 0, store 0 1 4500].map fun q => ((q.mach .c1).source, (q.mach .c1).state, q.protection.table.length)) =
      [(.lost, .stopped, 0), (.lost, .tripped, 1), (.stale, .stopped, 0)] ∧
    ([store 5 254 6000, store 5 40 0, store 5 40 4500].map fun q => ((q.vessel .v0).source, (q.vessel .v0).condition)) =
      [(.lost, .degraded), (.lost, .degraded), (.stale, .normal)] ∧
    ([store 13 254 6000, store 13 60 4500, store 13 60 4501].map fun q => (q.inventory.state, q.inventory.resume)) =
      [(.frozen, .tracking), (.frozen, .tracking), (.tracking, .reseeded)] ∧
    ([store 14 254 6000, store 14 61 0, store 14 61 4500].map fun q => q.dispatch.meter) = [.lost, .lost, .stale] := by decide +kernel

/-- R29: a difference in a seeded and in an unseeded inventory, with CAVERN good and bad. -/
theorem witness_MassFollowsTotalisersAndPressure_figures :
    let based (p : Ck4) : Ck4 := { p with inventory := { p.inventory with baseline := .all (some 0) } }
    let bad : Ck4 := { seeded with constants := { seeded.constants with
      sections := seeded.constants.sections.set .cavern ⟨[], 0, false⟩ } }
    (∀ p ∈ [seeded, plant .auto, bad], (based p).inventory.baseline.get .e1 = some 0) ∧
    (0 ≤ seeded.maxStep ∧ 100000 ≤ seeded.maxStep) ∧
    (seeded.inventory.state ≠ .unseeded ∧ seeded.constants.sections.cavern.good = true) ∧
    (plant .auto).inventory.state = .unseeded ∧ bad.constants.sections.cavern.good = false ∧
    ((based seeded).takeTotaliser .e1 100000).inventory.wDis = seeded.inventory.wDis - 100000 := by decide +kernel

end Sys2Proof.Tests
end

