-- ==== Sys2Proof/Proofs/DispatchReads.lean ====
section
/-! SUPPORT. What the reads of the settlement log, the allocator and protection answer (R133, R80, R152). -/

namespace Sys2Proof.Machine

/-! ### Reads in a served mode -/

/-- R187: in a served mode a read whose owner asks for nothing but a good length answers as its owner does, and only the record of
that answer changes. -/
theorem reading_guard_served (s : State) (h : s.served) (f : Ck4 → Answer) :
    s.reading (fun p => (p.guard true false (f p, p)).1) = .next (s.told (f s.part)) := by
  rw [reading_eq, guard_served s h]

theorem exec_readSettlements_served (s : State) (h : s.served) :
    exec .readSettlements s = .next (s.told s.part.readSettlementsAnswer) :=
  reading_guard_served s h Ck4.readSettlementsAnswer

theorem exec_readVessels_served (s : State) (h : s.served) :
    exec .readVessels s = .next (s.told s.part.readVesselsAnswer) :=
  reading_guard_served s h Ck4.readVesselsAnswer

theorem exec_readFaults_served (s : State) (h : s.served) :
    exec .readFaults s = .next (s.told s.part.readFaultsAnswer) :=
  reading_guard_served s h Ck4.readFaultsAnswer

/-! ### The seconds left on a timer, and the first-out mark -/

@[simp] theorem secondsLeft_none : secondsLeft none = 0 := rfl

@[simp] theorem secondsLeft_some (ms : Nat) : secondsLeft (some ms) = (ms + 999) / 1000 := by
  simp [secondsLeft, ceilDiv]

@[simp] theorem markFirstOut_nil : markFirstOut [] = [] := rfl

@[simp] theorem markFirstOut_cons (oldest : FaultRecord) (rest : List FaultRecord) :
    markFirstOut (oldest :: rest) = (true, oldest) :: rest.map fun r => (false, r) := rfl

end Sys2Proof.Machine
end

