-- ==== Sys2Proof/Proofs/Dispatch.lean ====
section
/-! PROOF. The statements about dispatch and settlement. -/

namespace Sys2Proof.Proofs
open Sys2Proof Sys2Proof.Machine

/-- Settles O16: each read answers as its owner does (`reading_guard_served`); the rest is what the owners' readings hold. -/
theorem settlementsVesselsFaultsAnswers : Obligations.SettlementsVesselsFaultsAnswers := by
  refine ⟨fun s h => ?settlements, fun s h => ?vessels, fun s h => ?faults⟩
  case settlements => exact exec_readSettlements_served s h
  case vessels =>
    rw [exec_readVessels_served s h]
    refine congrArg (fun reading => Host.Outcome.next (s.told (okWith (.allocator reading)))) ?_
    simp only [AllocatorReading.mk.injEq, true_and]
    refine ⟨List.map_congr_left fun v _ => rfl, List.map_congr_left fun m _ => ?_⟩
    cases timer : (s.part.binding m).timer <;> simp [Ck4.bindingReading, timer]
  case faults =>
    rw [exec_readFaults_served s h]
    cases table : s.part.protection.table <;> simp [Ck4.readFaultsAnswer, okWith, table]

end Sys2Proof.Proofs
end

