-- ==== Sys2Proof/Proofs/FaultRequests.lean ====
section
/-! SUPPORT. What ClearFaults and SetGroupEnable do where they reach their owner (R153, R138). -/

namespace Sys2Proof.Machine

/-- R187: in a served mode a request whose owner asks for nothing but a good length answers and acts as its owner does. -/
theorem request_guard_served (s : State) (h : s.served) (f : Ck4 → Answer × Ck4) :
    s.request (fun p => p.guard true false (f p)) = .next (s.answered (f s.part).1 (f s.part).2) := by
  rw [request_eq, guard_served s h]

/-! ### ClearFaults -/

/-- The records older than the first with the number, and all newer ones, stay in their order. -/
theorem removeRecord_append {n : Nat} {older : List FaultRecord} {r : FaultRecord} (newer : List FaultRecord)
    (hr : r.sequence = n) (hold : ∀ x ∈ older, x.sequence ≠ n) :
    removeRecord n (older ++ r :: newer) = older ++ newer := by
  induction older with
  | nil => simp [removeRecord, hr]
  | cons x older ih =>
    obtain ⟨hx, hold⟩ := List.forall_mem_cons.1 hold
    simp [removeRecord, hx, ih hold]

/-- The overflow flag is kept exactly where a record is left. -/
theorem withTable_eq (t : Protection) (table : List FaultRecord) :
    t.withTable table = { t with table := table, overflow := t.overflow && decide (0 < table.length) } := by
  cases table <;> simp [Protection.withTable]

theorem clearFaults_absent {p : Ck4} {n : Nat} (h : ∀ r ∈ p.protection.table, r.sequence ≠ n) :
    p.clearFaults 0 n = p.refused .argRange := by
  simpa [Ck4.clearFaults] using fun r hr hn => absurd hn (h r hr)

theorem clearFaults_present {p : Ck4} {n : Nat} {r : FaultRecord} (hmem : r ∈ p.protection.table) (hr : r.sequence = n) :
    p.clearFaults 0 n = p.keepFaults (removeRecord n p.protection.table) :=
  if_pos (List.any_eq_true.2 ⟨r, hmem, decide_eq_true hr⟩)

theorem exec_clearFaults_served (s : State) (h : s.served) (selector n : Nat) :
    exec (.clearFaults selector n) s =
      .next (s.answered (s.part.clearFaults selector n).1 (s.part.clearFaults selector n).2) :=
  request_guard_served s h fun p => p.clearFaults selector n

/-! ### SetGroupEnable -/

theorem onOff_of_le_one {value : Nat} (h : value ≤ 1) : onOff value = some (decide (value = 1)) := by
  obtain rfl | rfl : value = 0 ∨ value = 1 := by omega
  · rfl
  · rfl

theorem settableGroup_eq_none {group : Nat} (h : group > 5 ∨ group = 0 ∨ group = 1 ∨ group = 3) : settableGroup group = none := by
  unfold settableGroup
  split
  case h_4 => rfl
  all_goals omega

theorem setGroupEnable_other {group : Nat} (h : settableGroup group = none) (p : Ck4) (value : Nat) :
    p.setGroupEnable group value = p.refused .argRange := by
  simp [Ck4.setGroupEnable, h]

/-- R138: a group that may be set, with an on or off value, is refused or set by the mode alone. -/
theorem setGroupEnable_settable {group value : Nat} {g : Group} (hg : settableGroup group = some g) (hv : value ≤ 1) (p : Ck4) :
    p.setGroupEnable group value =
      if p.mode ≠ .standby then p.refused .wrongMode
      else (ok, { p with protection := { p.protection with enables := p.protection.enables.set g (decide (value = 1)) } }) := by
  simp only [Ck4.setGroupEnable, hg, onOff_of_le_one hv]

theorem exec_setGroupEnable_served (s : State) (h : s.served) (group value : Nat) :
    exec (.setGroupEnable group value) s =
      .next (s.answered (s.part.setGroupEnable group value).1 (s.part.setGroupEnable group value).2) :=
  request_guard_served s h fun p => p.setGroupEnable group value

theorem exec_setGroupEnable_wrongMode {s : State} (h : s.served) {group value : Nat} {g : Group} (hg : settableGroup group = some g)
    (hv : value ≤ 1) (hm : s.part.mode ≠ .standby) :
    exec (.setGroupEnable group value) s = .next (s.answered (refuse .wrongMode) s.part) := by
  rw [exec_setGroupEnable_served s h, setGroupEnable_settable hg hv, if_pos hm]
  rfl

theorem exec_setGroupEnable_standby {s : State} (h : s.served) {group value : Nat} {g : Group} (hg : settableGroup group = some g)
    (hv : value ≤ 1) (hm : s.part.mode = .standby) :
    exec (.setGroupEnable group value) s = .next (s.answered ok { s.part with protection :=
      { s.part.protection with enables := s.part.protection.enables.set g (decide (value = 1)) } }) := by
  rw [exec_setGroupEnable_served s h, setGroupEnable_settable hg hv, if_neg (not_not_intro hm)]

end Sys2Proof.Machine
end

