-- ==== Sys2Proof/Proofs/TripsAndFaultRecords.lean ====
section
/-! PROOF. The statements about trips and fault records. -/

namespace Sys2Proof.Proofs
open Sys2Proof Sys2Proof.Machine

/-- Settles O45: each request reaches its owner in a served mode. ClearFaults then turns on the first record with the number
(`removeRecord_append`), SetGroupEnable on the group, the value and the mode (`setGroupEnable_settable`). -/
theorem clearFaultsAndGroupEnable : Obligations.ClearFaultsAndGroupEnable := by
  refine ⟨fun n s h => ⟨fun habsent => ?absent, fun older r newer htable hr hold => ?oldest, ?all⟩,
    fun group value s h => ⟨fun hg => ?otherGroup, fun hg hv hm => ?wrongMode, fun hv hm => ?standby⟩⟩
  case absent => rw [exec_clearFaults_served s h, clearFaults_absent habsent]; rfl
  case oldest =>
    have hmem : r ∈ s.part.protection.table := by simp [htable]
    rw [exec_clearFaults_served s h, clearFaults_present hmem hr, htable, removeRecord_append newer hr hold]
    simp [Ck4.keepFaults, withTable_eq, okWith]
  case all =>
    rw [exec_clearFaults_served s h]
    simp [Ck4.clearFaults, Ck4.keepFaults, withTable_eq, okWith]
  case otherGroup =>
    rw [exec_setGroupEnable_served s h, setGroupEnable_other (settableGroup_eq_none hg)]; rfl
  case wrongMode =>
    obtain rfl | rfl | rfl := hg
    · exact exec_setGroupEnable_wrongMode h (g := .vessel) rfl hv hm
    · exact exec_setGroupEnable_wrongMode h (g := .port) rfl hv hm
    · exact exec_setGroupEnable_wrongMode h (g := .lines) rfl hv hm
  case standby =>
    exact ⟨exec_setGroupEnable_standby h (g := .vessel) rfl hv hm, exec_setGroupEnable_standby h (g := .port) rfl hv hm,
      exec_setGroupEnable_standby h (g := .lines) rfl hv hm⟩

end Sys2Proof.Proofs
end
